-- ==== Sys2Proof/Word.lean ====
section
/-! DEFINITION. The two word types of pyGB CORE (00_scope.md R9): a byte and a 16-bit word. -/

namespace Sys2Proof

/-- A byte: 8 bits, bit 0 least significant (00_scope.md R9). -/
abbrev Byte := BitVec 8

/-- A word: 16 bits; registers SP and pc and every Bus address (00_scope.md R9, 20_memory.md R60). -/
abbrev Word := BitVec 16

end Sys2Proof
end

