-- ==== Sys2Proof/Config.lean ====
section
/-! DEFINITION. The parameters a model of pyGB CORE takes (00_scope.md R8) and the free values of the
points the spec leaves open (93_implementation_defined.md part 1). -/

namespace Sys2Proof

/-- `WRAM_ECHO_MODE`: how 0xE000-0xFDFF reaches work RAM (20_memory.md R67). -/
inductive EchoMode where
  | trueMirror
  | sourceArith
  deriving DecidableEq, Repr

/-- The four devices the host lends to the Bus (10_state.md R34). -/
inductive Lent where
  | bootOverlay
  | videoRam
  | oam
  | io
  deriving DecidableEq, Repr

/-- `UNIMPL_CCALL`: a subset of the four conditional calls 0xC4, 0xCC, 0xD4, 0xDC, one field a
member (00_scope.md R8, 46_control_transfer.md R346). -/
structure UnimplCcall where
  nz : Bool
  z : Bool
  nc : Bool
  c : Bool
  deriving DecidableEq, Repr

/-- `RESET_REGS`: whether a read of a register or flag that nothing has written since reset is the
fault UnwrittenRead (NOVALUE) or reads a drawn value (DRAW) (10_state.md R45, 60_exceptions.md
R418). -/
inductive ResetRegs where
  | noValue
  | draw
  deriving DecidableEq, Repr

/-- The parameters of 00_scope.md R8 that take a value. A launch state fixes them
(70_reset_and_hazards.md R453) and no step changes them. The types admit no value outside R8's
(60_exceptions.md R419 c). `MEM_INIT`, `CART_RAM_INIT` and the draws of `EXT_DEV` are the free
values below. -/
structure Config where
  /-- `WRAM_ECHO_MODE` (R67). -/
  echo : EchoMode
  /-- `CB_ROW1_AS_RLC` (45_rotate_shift_bit.md R314). -/
  cbRow1AsRlc : Bool
  /-- `UNIMPL_CCALL` (R346). -/
  unimplCcall : UnimplCcall
  /-- `TYPE1_IDS` (20_memory.md R78). -/
  type1Ids : List Byte
  /-- `RESET_REGS` (60_exceptions.md R418). -/
  resetRegs : ResetRegs
  deriving DecidableEq, Repr

/-- The values the spec decides for the parameters (00_scope.md R8). -/
def Config.decided : Config where
  echo := .trueMirror
  cbRow1AsRlc := false
  unimplCcall := ⟨false, false, false, false⟩
  type1Ids := [0x01]
  resetRegs := .noValue

/-- The parameters of the reset state: the decided ones but for `RESET_REGS` = DRAW, so that a program
can run from reset (DESIGN CHOICE, log 2). -/
def Config.launch : Config := { Config.decided with resetRegs := .draw }

/-- The byte a lent device's port returns: draw number, device, offset. Free (20_memory.md R97, log 5). -/
opaque Config.lentByte : Nat → Lent → Nat → Byte

/-- `MEM_INIT` of work RAM: epoch, offset. Free (10_state.md R45, log 3). -/
opaque Config.workRamInit : Nat → Nat → Byte

/-- `MEM_INIT` of high RAM: epoch, offset. Free (10_state.md R45, log 3). -/
opaque Config.highRamInit : Nat → Nat → Byte

/-- `CART_RAM_INIT`: cartridge serial, bank, offset. Free (10_state.md R41, log 4). -/
opaque Config.cartRamInit : Nat → Nat → Nat → Byte

end Sys2Proof
end

