-- ==== Sys2Proof/Syntax.lean ====
section
/-! DEFINITION. The instructions of pyGB CORE: one constructor per mnemonic of
spec/opcode_table.json (the eleven illegal opcodes are one mnemonic and one constructor), and the
operand names of 30_encoding.md R123 to R129. -/

namespace Sys2Proof

/-- The seven general registers (10_state.md R20). -/
inductive Reg where
  | b | c | d | e | h | l | a
  deriving DecidableEq, Repr

/-- A register code's operand: a register, or the byte at HL for code 110 (30_encoding.md R123). -/
inductive R8 where
  | reg (r : Reg)
  | atHl
  deriving DecidableEq, Repr

/-- The pair index of LD rr,n16, INC rr, DEC rr and ADD HL,rr (30_encoding.md R124). -/
inductive Pair where
  | bc | de | hl | sp
  deriving DecidableEq, Repr

/-- The pair index of PUSH and POP (30_encoding.md R125). -/
inductive StackPair where
  | bc | de | hl | af
  deriving DecidableEq, Repr

/-- A condition code (30_encoding.md R126). -/
inductive Cond where
  | nz | z | nc | c
  deriving DecidableEq, Repr

/-- An ALU operation (30_encoding.md R128). -/
inductive AluOp where
  | add | adc | sub | sbc | and | xor | or | cp
  deriving DecidableEq, Repr

/-- A rotate or shift of the extended table (30_encoding.md R129). -/
inductive RotOp where
  | rlc | rrc | rl | rr | sla | sra | swap | srl
  deriving DecidableEq, Repr

/-- The address of an accumulator load or store through a pair (30_encoding.md R131, z = 010). -/
inductive IndAddr where
  | bc | de | hlInc | hlDec
  deriving DecidableEq, Repr

/-- The accumulator and carry operations of class 00, z = 111 (30_encoding.md R131). -/
inductive AccOp where
  | rlca | rrca | rla | rra | daa | cpl | scf | ccf
  deriving DecidableEq, Repr

/-- An instruction. `n`, `e`, `off` are the immediate byte of format B2 (unsigned data, signed
displacement, offset from 0xFF00); `nn`, `addr` the word of format B3 (30_encoding.md R121, R130).
The constructors with an operand come first (Lean's
compiled code bounds their number). `prefixCb` is the prefix byte alone: its extended byte is fetched by its meaning
(40_step_and_system.md R210, log 12). -/
inductive Instr where
  | ldBcN16 (nn : Word) -- LD BC,n16: 0x01, R250
  | ldBN8 (n : Byte) -- LD B,n8: 0x06, R223
  | ldAtA16Sp (addr : Word) -- LD (a16),SP: 0x08, R251
  | ldCN8 (n : Byte) -- LD C,n8: 0x0E, R223
  | ldDeN16 (nn : Word) -- LD DE,n16: 0x11, R250
  | ldDN8 (n : Byte) -- LD D,n8: 0x16, R223
  | jrE8 (e : Byte) -- JR e8: 0x18, R340
  | ldEN8 (n : Byte) -- LD E,n8: 0x1E, R223
  | jrNzE8 (e : Byte) -- JR NZ,e8: 0x20, R341
  | ldHlN16 (nn : Word) -- LD HL,n16: 0x21, R250
  | ldHN8 (n : Byte) -- LD H,n8: 0x26, R223
  | jrZE8 (e : Byte) -- JR Z,e8: 0x28, R341
  | ldLN8 (n : Byte) -- LD L,n8: 0x2E, R223
  | jrNcE8 (e : Byte) -- JR NC,e8: 0x30, R341
  | ldSpN16 (nn : Word) -- LD SP,n16: 0x31, R250
  | ldAtHlN8 (n : Byte) -- LD (HL),n8: 0x36, R224
  | jrCE8 (e : Byte) -- JR C,e8: 0x38, R341
  | ldAN8 (n : Byte) -- LD A,n8: 0x3E, R223
  | jpNzA16 (addr : Word) -- JP NZ,a16: 0xC2, R343
  | jpA16 (addr : Word) -- JP a16: 0xC3, R342
  | callNzA16 (addr : Word) -- CALL NZ,a16: 0xC4, R346
  | addAN8 (n : Byte) -- ADD A,n8: 0xC6, R271
  | jpZA16 (addr : Word) -- JP Z,a16: 0xCA, R343
  | callZA16 (addr : Word) -- CALL Z,a16: 0xCC, R346
  | callA16 (addr : Word) -- CALL a16: 0xCD, R345
  | adcAN8 (n : Byte) -- ADC A,n8: 0xCE, R272
  | jpNcA16 (addr : Word) -- JP NC,a16: 0xD2, R343
  | illegal (op : Byte) -- ILLEGAL: the eleven of R136, R209
  | callNcA16 (addr : Word) -- CALL NC,a16: 0xD4, R346
  | subAN8 (n : Byte) -- SUB A,n8: 0xD6, R273
  | jpCA16 (addr : Word) -- JP C,a16: 0xDA, R343
  | callCA16 (addr : Word) -- CALL C,a16: 0xDC, R346
  | sbcAN8 (n : Byte) -- SBC A,n8: 0xDE, R274
  | ldhAtA8A (off : Byte) -- LDH (a8),A: 0xE0, R233
  | andAN8 (n : Byte) -- AND A,n8: 0xE6, R275
  | addSpE8 (e : Byte) -- ADD SP,e8: 0xE8, R303
  | ldAtA16A (addr : Word) -- LD (a16),A: 0xEA, R237
  | xorAN8 (n : Byte) -- XOR A,n8: 0xEE, R276
  | ldhAAtA8 (off : Byte) -- LDH A,(a8): 0xF0, R234
  | orAN8 (n : Byte) -- OR A,n8: 0xF6, R277
  | ldHlSpE8 (e : Byte) -- LD HL,SP+e8: 0xF8, R253
  | ldAAtA16 (addr : Word) -- LD A,(a16): 0xFA, R238
  | cpAN8 (n : Byte) -- CP A,n8: 0xFE, R278
  | nop -- NOP: 0x00, R204
  | ldAtBcA -- LD (BC),A: 0x02, R225
  | incBc -- INC BC: 0x03, R300
  | incB -- INC B: 0x04, R279
  | decB -- DEC B: 0x05, R280
  | rlca -- RLCA: 0x07, R310
  | addHlBc -- ADD HL,BC: 0x09, R302
  | ldAAtBc -- LD A,(BC): 0x0A, R227
  | decBc -- DEC BC: 0x0B, R301
  | incC -- INC C: 0x0C, R279
  | decC -- DEC C: 0x0D, R280
  | rrca -- RRCA: 0x0F, R311
  | stop -- STOP: 0x10, R205
  | ldAtDeA -- LD (DE),A: 0x12, R226
  | incDe -- INC DE: 0x13, R300
  | incD -- INC D: 0x14, R279
  | decD -- DEC D: 0x15, R280
  | rla -- RLA: 0x17, R312
  | addHlDe -- ADD HL,DE: 0x19, R302
  | ldAAtDe -- LD A,(DE): 0x1A, R228
  | decDe -- DEC DE: 0x1B, R301
  | incE -- INC E: 0x1C, R279
  | decE -- DEC E: 0x1D, R280
  | rra -- RRA: 0x1F, R313
  | ldAtHlIncA -- LD (HL+),A: 0x22, R229
  | incHl -- INC HL: 0x23, R300
  | incH -- INC H: 0x24, R279
  | decH -- DEC H: 0x25, R280
  | daa -- DAA: 0x27, R281
  | addHlHl -- ADD HL,HL: 0x29, R302
  | ldAAtHlInc -- LD A,(HL+): 0x2A, R231
  | decHl -- DEC HL: 0x2B, R301
  | incL -- INC L: 0x2C, R279
  | decL -- DEC L: 0x2D, R280
  | cpl -- CPL: 0x2F, R282
  | ldAtHlDecA -- LD (HL-),A: 0x32, R230
  | incSp -- INC SP: 0x33, R300
  | incAtHl -- INC (HL): 0x34, R279
  | decAtHl -- DEC (HL): 0x35, R280
  | scf -- SCF: 0x37, R283
  | addHlSp -- ADD HL,SP: 0x39, R302
  | ldAAtHlDec -- LD A,(HL-): 0x3A, R232
  | decSp -- DEC SP: 0x3B, R301
  | incA -- INC A: 0x3C, R279
  | decA -- DEC A: 0x3D, R280
  | ccf -- CCF: 0x3F, R284
  | ldBB -- LD B,B: 0x40, R220
  | ldBC -- LD B,C: 0x41, R220
  | ldBD -- LD B,D: 0x42, R220
  | ldBE -- LD B,E: 0x43, R220
  | ldBH -- LD B,H: 0x44, R220
  | ldBL -- LD B,L: 0x45, R220
  | ldBAtHl -- LD B,(HL): 0x46, R221
  | ldBA -- LD B,A: 0x47, R220
  | ldCB -- LD C,B: 0x48, R220
  | ldCC -- LD C,C: 0x49, R220
  | ldCD -- LD C,D: 0x4A, R220
  | ldCE -- LD C,E: 0x4B, R220
  | ldCH -- LD C,H: 0x4C, R220
  | ldCL -- LD C,L: 0x4D, R220
  | ldCAtHl -- LD C,(HL): 0x4E, R221
  | ldCA -- LD C,A: 0x4F, R220
  | ldDB -- LD D,B: 0x50, R220
  | ldDC -- LD D,C: 0x51, R220
  | ldDD -- LD D,D: 0x52, R220
  | ldDE -- LD D,E: 0x53, R220
  | ldDH -- LD D,H: 0x54, R220
  | ldDL -- LD D,L: 0x55, R220
  | ldDAtHl -- LD D,(HL): 0x56, R221
  | ldDA -- LD D,A: 0x57, R220
  | ldEB -- LD E,B: 0x58, R220
  | ldEC -- LD E,C: 0x59, R220
  | ldED -- LD E,D: 0x5A, R220
  | ldEE -- LD E,E: 0x5B, R220
  | ldEH -- LD E,H: 0x5C, R220
  | ldEL -- LD E,L: 0x5D, R220
  | ldEAtHl -- LD E,(HL): 0x5E, R221
  | ldEA -- LD E,A: 0x5F, R220
  | ldHB -- LD H,B: 0x60, R220
  | ldHC -- LD H,C: 0x61, R220
  | ldHD -- LD H,D: 0x62, R220
  | ldHE -- LD H,E: 0x63, R220
  | ldHH -- LD H,H: 0x64, R220
  | ldHL -- LD H,L: 0x65, R220
  | ldHAtHl -- LD H,(HL): 0x66, R221
  | ldHA -- LD H,A: 0x67, R220
  | ldLB -- LD L,B: 0x68, R220
  | ldLC -- LD L,C: 0x69, R220
  | ldLD -- LD L,D: 0x6A, R220
  | ldLE -- LD L,E: 0x6B, R220
  | ldLH -- LD L,H: 0x6C, R220
  | ldLL -- LD L,L: 0x6D, R220
  | ldLAtHl -- LD L,(HL): 0x6E, R221
  | ldLA -- LD L,A: 0x6F, R220
  | ldAtHlB -- LD (HL),B: 0x70, R222
  | ldAtHlC -- LD (HL),C: 0x71, R222
  | ldAtHlD -- LD (HL),D: 0x72, R222
  | ldAtHlE -- LD (HL),E: 0x73, R222
  | ldAtHlH -- LD (HL),H: 0x74, R222
  | ldAtHlL -- LD (HL),L: 0x75, R222
  | halt -- HALT: 0x76, R206
  | ldAtHlA -- LD (HL),A: 0x77, R222
  | ldAB -- LD A,B: 0x78, R220
  | ldAC -- LD A,C: 0x79, R220
  | ldAD -- LD A,D: 0x7A, R220
  | ldAE -- LD A,E: 0x7B, R220
  | ldAH -- LD A,H: 0x7C, R220
  | ldAL -- LD A,L: 0x7D, R220
  | ldAAtHl -- LD A,(HL): 0x7E, R221
  | ldAA -- LD A,A: 0x7F, R220
  | addAB -- ADD A,B: 0x80, R271
  | addAC -- ADD A,C: 0x81, R271
  | addAD -- ADD A,D: 0x82, R271
  | addAE -- ADD A,E: 0x83, R271
  | addAH -- ADD A,H: 0x84, R271
  | addAL -- ADD A,L: 0x85, R271
  | addAAtHl -- ADD A,(HL): 0x86, R271
  | addAA -- ADD A,A: 0x87, R271
  | adcAB -- ADC A,B: 0x88, R272
  | adcAC -- ADC A,C: 0x89, R272
  | adcAD -- ADC A,D: 0x8A, R272
  | adcAE -- ADC A,E: 0x8B, R272
  | adcAH -- ADC A,H: 0x8C, R272
  | adcAL -- ADC A,L: 0x8D, R272
  | adcAAtHl -- ADC A,(HL): 0x8E, R272
  | adcAA -- ADC A,A: 0x8F, R272
  | subAB -- SUB A,B: 0x90, R273
  | subAC -- SUB A,C: 0x91, R273
  | subAD -- SUB A,D: 0x92, R273
  | subAE -- SUB A,E: 0x93, R273
  | subAH -- SUB A,H: 0x94, R273
  | subAL -- SUB A,L: 0x95, R273
  | subAAtHl -- SUB A,(HL): 0x96, R273
  | subAA -- SUB A,A: 0x97, R273
  | sbcAB -- SBC A,B: 0x98, R274
  | sbcAC -- SBC A,C: 0x99, R274
  | sbcAD -- SBC A,D: 0x9A, R274
  | sbcAE -- SBC A,E: 0x9B, R274
  | sbcAH -- SBC A,H: 0x9C, R274
  | sbcAL -- SBC A,L: 0x9D, R274
  | sbcAAtHl -- SBC A,(HL): 0x9E, R274
  | sbcAA -- SBC A,A: 0x9F, R274
  | andAB -- AND A,B: 0xA0, R275
  | andAC -- AND A,C: 0xA1, R275
  | andAD -- AND A,D: 0xA2, R275
  | andAE -- AND A,E: 0xA3, R275
  | andAH -- AND A,H: 0xA4, R275
  | andAL -- AND A,L: 0xA5, R275
  | andAAtHl -- AND A,(HL): 0xA6, R275
  | andAA -- AND A,A: 0xA7, R275
  | xorAB -- XOR A,B: 0xA8, R276
  | xorAC -- XOR A,C: 0xA9, R276
  | xorAD -- XOR A,D: 0xAA, R276
  | xorAE -- XOR A,E: 0xAB, R276
  | xorAH -- XOR A,H: 0xAC, R276
  | xorAL -- XOR A,L: 0xAD, R276
  | xorAAtHl -- XOR A,(HL): 0xAE, R276
  | xorAA -- XOR A,A: 0xAF, R276
  | orAB -- OR A,B: 0xB0, R277
  | orAC -- OR A,C: 0xB1, R277
  | orAD -- OR A,D: 0xB2, R277
  | orAE -- OR A,E: 0xB3, R277
  | orAH -- OR A,H: 0xB4, R277
  | orAL -- OR A,L: 0xB5, R277
  | orAAtHl -- OR A,(HL): 0xB6, R277
  | orAA -- OR A,A: 0xB7, R277
  | cpAB -- CP A,B: 0xB8, R278
  | cpAC -- CP A,C: 0xB9, R278
  | cpAD -- CP A,D: 0xBA, R278
  | cpAE -- CP A,E: 0xBB, R278
  | cpAH -- CP A,H: 0xBC, R278
  | cpAL -- CP A,L: 0xBD, R278
  | cpAAtHl -- CP A,(HL): 0xBE, R278
  | cpAA -- CP A,A: 0xBF, R278
  | retNz -- RET NZ: 0xC0, R349
  | popBc -- POP BC: 0xC1, R255
  | pushBc -- PUSH BC: 0xC5, R254
  | rst00 -- RST 0x00: 0xC7, R350
  | retZ -- RET Z: 0xC8, R349
  | ret -- RET: 0xC9, R347
  | prefixCb -- PREFIX CB: 0xCB, R210
  | rst08 -- RST 0x08: 0xCF, R350
  | retNc -- RET NC: 0xD0, R349
  | popDe -- POP DE: 0xD1, R255
  | pushDe -- PUSH DE: 0xD5, R254
  | rst10 -- RST 0x10: 0xD7, R350
  | retC -- RET C: 0xD8, R349
  | reti -- RETI: 0xD9, R348
  | rst18 -- RST 0x18: 0xDF, R350
  | popHl -- POP HL: 0xE1, R255
  | ldAtCA -- LD (C),A: 0xE2, R235
  | pushHl -- PUSH HL: 0xE5, R254
  | rst20 -- RST 0x20: 0xE7, R350
  | jpHl -- JP HL: 0xE9, R344
  | rst28 -- RST 0x28: 0xEF, R350
  | popAf -- POP AF: 0xF1, R256
  | ldAAtC -- LD A,(C): 0xF2, R236
  | di -- DI: 0xF3, R207
  | pushAf -- PUSH AF: 0xF5, R254
  | rst30 -- RST 0x30: 0xF7, R350
  | ldSpHl -- LD SP,HL: 0xF9, R252
  | ei -- EI: 0xFB, R208
  | rst38 -- RST 0x38: 0xFF, R350
  | rlcB -- RLC B: 0xCB 0x00, R315
  | rlcC -- RLC C: 0xCB 0x01, R315
  | rlcD -- RLC D: 0xCB 0x02, R315
  | rlcE -- RLC E: 0xCB 0x03, R315
  | rlcH -- RLC H: 0xCB 0x04, R315
  | rlcL -- RLC L: 0xCB 0x05, R315
  | rlcAtHl -- RLC (HL): 0xCB 0x06, R315
  | rlcA -- RLC A: 0xCB 0x07, R315
  | rrcB -- RRC B: 0xCB 0x08, R316
  | rrcC -- RRC C: 0xCB 0x09, R316
  | rrcD -- RRC D: 0xCB 0x0A, R316
  | rrcE -- RRC E: 0xCB 0x0B, R316
  | rrcH -- RRC H: 0xCB 0x0C, R316
  | rrcL -- RRC L: 0xCB 0x0D, R316
  | rrcAtHl -- RRC (HL): 0xCB 0x0E, R316
  | rrcA -- RRC A: 0xCB 0x0F, R316
  | rlB -- RL B: 0xCB 0x10, R317
  | rlC -- RL C: 0xCB 0x11, R317
  | rlD -- RL D: 0xCB 0x12, R317
  | rlE -- RL E: 0xCB 0x13, R317
  | rlH -- RL H: 0xCB 0x14, R317
  | rlL -- RL L: 0xCB 0x15, R317
  | rlAtHl -- RL (HL): 0xCB 0x16, R317
  | rlA -- RL A: 0xCB 0x17, R317
  | rrB -- RR B: 0xCB 0x18, R318
  | rrC -- RR C: 0xCB 0x19, R318
  | rrD -- RR D: 0xCB 0x1A, R318
  | rrE -- RR E: 0xCB 0x1B, R318
  | rrH -- RR H: 0xCB 0x1C, R318
  | rrL -- RR L: 0xCB 0x1D, R318
  | rrAtHl -- RR (HL): 0xCB 0x1E, R318
  | rrA -- RR A: 0xCB 0x1F, R318
  | slaB -- SLA B: 0xCB 0x20, R319
  | slaC -- SLA C: 0xCB 0x21, R319
  | slaD -- SLA D: 0xCB 0x22, R319
  | slaE -- SLA E: 0xCB 0x23, R319
  | slaH -- SLA H: 0xCB 0x24, R319
  | slaL -- SLA L: 0xCB 0x25, R319
  | slaAtHl -- SLA (HL): 0xCB 0x26, R319
  | slaA -- SLA A: 0xCB 0x27, R319
  | sraB -- SRA B: 0xCB 0x28, R320
  | sraC -- SRA C: 0xCB 0x29, R320
  | sraD -- SRA D: 0xCB 0x2A, R320
  | sraE -- SRA E: 0xCB 0x2B, R320
  | sraH -- SRA H: 0xCB 0x2C, R320
  | sraL -- SRA L: 0xCB 0x2D, R320
  | sraAtHl -- SRA (HL): 0xCB 0x2E, R320
  | sraA -- SRA A: 0xCB 0x2F, R320
  | swapB -- SWAP B: 0xCB 0x30, R321
  | swapC -- SWAP C: 0xCB 0x31, R321
  | swapD -- SWAP D: 0xCB 0x32, R321
  | swapE -- SWAP E: 0xCB 0x33, R321
  | swapH -- SWAP H: 0xCB 0x34, R321
  | swapL -- SWAP L: 0xCB 0x35, R321
  | swapAtHl -- SWAP (HL): 0xCB 0x36, R321
  | swapA -- SWAP A: 0xCB 0x37, R321
  | srlB -- SRL B: 0xCB 0x38, R322
  | srlC -- SRL C: 0xCB 0x39, R322
  | srlD -- SRL D: 0xCB 0x3A, R322
  | srlE -- SRL E: 0xCB 0x3B, R322
  | srlH -- SRL H: 0xCB 0x3C, R322
  | srlL -- SRL L: 0xCB 0x3D, R322
  | srlAtHl -- SRL (HL): 0xCB 0x3E, R322
  | srlA -- SRL A: 0xCB 0x3F, R322
  | bit0B -- BIT 0,B: 0xCB 0x40, R323
  | bit0C -- BIT 0,C: 0xCB 0x41, R323
  | bit0D -- BIT 0,D: 0xCB 0x42, R323
  | bit0E -- BIT 0,E: 0xCB 0x43, R323
  | bit0H -- BIT 0,H: 0xCB 0x44, R323
  | bit0L -- BIT 0,L: 0xCB 0x45, R323
  | bit0AtHl -- BIT 0,(HL): 0xCB 0x46, R323
  | bit0A -- BIT 0,A: 0xCB 0x47, R323
  | bit1B -- BIT 1,B: 0xCB 0x48, R323
  | bit1C -- BIT 1,C: 0xCB 0x49, R323
  | bit1D -- BIT 1,D: 0xCB 0x4A, R323
  | bit1E -- BIT 1,E: 0xCB 0x4B, R323
  | bit1H -- BIT 1,H: 0xCB 0x4C, R323
  | bit1L -- BIT 1,L: 0xCB 0x4D, R323
  | bit1AtHl -- BIT 1,(HL): 0xCB 0x4E, R323
  | bit1A -- BIT 1,A: 0xCB 0x4F, R323
  | bit2B -- BIT 2,B: 0xCB 0x50, R323
  | bit2C -- BIT 2,C: 0xCB 0x51, R323
  | bit2D -- BIT 2,D: 0xCB 0x52, R323
  | bit2E -- BIT 2,E: 0xCB 0x53, R323
  | bit2H -- BIT 2,H: 0xCB 0x54, R323
  | bit2L -- BIT 2,L: 0xCB 0x55, R323
  | bit2AtHl -- BIT 2,(HL): 0xCB 0x56, R323
  | bit2A -- BIT 2,A: 0xCB 0x57, R323
  | bit3B -- BIT 3,B: 0xCB 0x58, R323
  | bit3C -- BIT 3,C: 0xCB 0x59, R323
  | bit3D -- BIT 3,D: 0xCB 0x5A, R323
  | bit3E -- BIT 3,E: 0xCB 0x5B, R323
  | bit3H -- BIT 3,H: 0xCB 0x5C, R323
  | bit3L -- BIT 3,L: 0xCB 0x5D, R323
  | bit3AtHl -- BIT 3,(HL): 0xCB 0x5E, R323
  | bit3A -- BIT 3,A: 0xCB 0x5F, R323
  | bit4B -- BIT 4,B: 0xCB 0x60, R323
  | bit4C -- BIT 4,C: 0xCB 0x61, R323
  | bit4D -- BIT 4,D: 0xCB 0x62, R323
  | bit4E -- BIT 4,E: 0xCB 0x63, R323
  | bit4H -- BIT 4,H: 0xCB 0x64, R323
  | bit4L -- BIT 4,L: 0xCB 0x65, R323
  | bit4AtHl -- BIT 4,(HL): 0xCB 0x66, R323
  | bit4A -- BIT 4,A: 0xCB 0x67, R323
  | bit5B -- BIT 5,B: 0xCB 0x68, R323
  | bit5C -- BIT 5,C: 0xCB 0x69, R323
  | bit5D -- BIT 5,D: 0xCB 0x6A, R323
  | bit5E -- BIT 5,E: 0xCB 0x6B, R323
  | bit5H -- BIT 5,H: 0xCB 0x6C, R323
  | bit5L -- BIT 5,L: 0xCB 0x6D, R323
  | bit5AtHl -- BIT 5,(HL): 0xCB 0x6E, R323
  | bit5A -- BIT 5,A: 0xCB 0x6F, R323
  | bit6B -- BIT 6,B: 0xCB 0x70, R323
  | bit6C -- BIT 6,C: 0xCB 0x71, R323
  | bit6D -- BIT 6,D: 0xCB 0x72, R323
  | bit6E -- BIT 6,E: 0xCB 0x73, R323
  | bit6H -- BIT 6,H: 0xCB 0x74, R323
  | bit6L -- BIT 6,L: 0xCB 0x75, R323
  | bit6AtHl -- BIT 6,(HL): 0xCB 0x76, R323
  | bit6A -- BIT 6,A: 0xCB 0x77, R323
  | bit7B -- BIT 7,B: 0xCB 0x78, R323
  | bit7C -- BIT 7,C: 0xCB 0x79, R323
  | bit7D -- BIT 7,D: 0xCB 0x7A, R323
  | bit7E -- BIT 7,E: 0xCB 0x7B, R323
  | bit7H -- BIT 7,H: 0xCB 0x7C, R323
  | bit7L -- BIT 7,L: 0xCB 0x7D, R323
  | bit7AtHl -- BIT 7,(HL): 0xCB 0x7E, R323
  | bit7A -- BIT 7,A: 0xCB 0x7F, R323
  | res0B -- RES 0,B: 0xCB 0x80, R324
  | res0C -- RES 0,C: 0xCB 0x81, R324
  | res0D -- RES 0,D: 0xCB 0x82, R324
  | res0E -- RES 0,E: 0xCB 0x83, R324
  | res0H -- RES 0,H: 0xCB 0x84, R324
  | res0L -- RES 0,L: 0xCB 0x85, R324
  | res0AtHl -- RES 0,(HL): 0xCB 0x86, R324
  | res0A -- RES 0,A: 0xCB 0x87, R324
  | res1B -- RES 1,B: 0xCB 0x88, R324
  | res1C -- RES 1,C: 0xCB 0x89, R324
  | res1D -- RES 1,D: 0xCB 0x8A, R324
  | res1E -- RES 1,E: 0xCB 0x8B, R324
  | res1H -- RES 1,H: 0xCB 0x8C, R324
  | res1L -- RES 1,L: 0xCB 0x8D, R324
  | res1AtHl -- RES 1,(HL): 0xCB 0x8E, R324
  | res1A -- RES 1,A: 0xCB 0x8F, R324
  | res2B -- RES 2,B: 0xCB 0x90, R324
  | res2C -- RES 2,C: 0xCB 0x91, R324
  | res2D -- RES 2,D: 0xCB 0x92, R324
  | res2E -- RES 2,E: 0xCB 0x93, R324
  | res2H -- RES 2,H: 0xCB 0x94, R324
  | res2L -- RES 2,L: 0xCB 0x95, R324
  | res2AtHl -- RES 2,(HL): 0xCB 0x96, R324
  | res2A -- RES 2,A: 0xCB 0x97, R324
  | res3B -- RES 3,B: 0xCB 0x98, R324
  | res3C -- RES 3,C: 0xCB 0x99, R324
  | res3D -- RES 3,D: 0xCB 0x9A, R324
  | res3E -- RES 3,E: 0xCB 0x9B, R324
  | res3H -- RES 3,H: 0xCB 0x9C, R324
  | res3L -- RES 3,L: 0xCB 0x9D, R324
  | res3AtHl -- RES 3,(HL): 0xCB 0x9E, R324
  | res3A -- RES 3,A: 0xCB 0x9F, R324
  | res4B -- RES 4,B: 0xCB 0xA0, R324
  | res4C -- RES 4,C: 0xCB 0xA1, R324
  | res4D -- RES 4,D: 0xCB 0xA2, R324
  | res4E -- RES 4,E: 0xCB 0xA3, R324
  | res4H -- RES 4,H: 0xCB 0xA4, R324
  | res4L -- RES 4,L: 0xCB 0xA5, R324
  | res4AtHl -- RES 4,(HL): 0xCB 0xA6, R324
  | res4A -- RES 4,A: 0xCB 0xA7, R324
  | res5B -- RES 5,B: 0xCB 0xA8, R324
  | res5C -- RES 5,C: 0xCB 0xA9, R324
  | res5D -- RES 5,D: 0xCB 0xAA, R324
  | res5E -- RES 5,E: 0xCB 0xAB, R324
  | res5H -- RES 5,H: 0xCB 0xAC, R324
  | res5L -- RES 5,L: 0xCB 0xAD, R324
  | res5AtHl -- RES 5,(HL): 0xCB 0xAE, R324
  | res5A -- RES 5,A: 0xCB 0xAF, R324
  | res6B -- RES 6,B: 0xCB 0xB0, R324
  | res6C -- RES 6,C: 0xCB 0xB1, R324
  | res6D -- RES 6,D: 0xCB 0xB2, R324
  | res6E -- RES 6,E: 0xCB 0xB3, R324
  | res6H -- RES 6,H: 0xCB 0xB4, R324
  | res6L -- RES 6,L: 0xCB 0xB5, R324
  | res6AtHl -- RES 6,(HL): 0xCB 0xB6, R324
  | res6A -- RES 6,A: 0xCB 0xB7, R324
  | res7B -- RES 7,B: 0xCB 0xB8, R324
  | res7C -- RES 7,C: 0xCB 0xB9, R324
  | res7D -- RES 7,D: 0xCB 0xBA, R324
  | res7E -- RES 7,E: 0xCB 0xBB, R324
  | res7H -- RES 7,H: 0xCB 0xBC, R324
  | res7L -- RES 7,L: 0xCB 0xBD, R324
  | res7AtHl -- RES 7,(HL): 0xCB 0xBE, R324
  | res7A -- RES 7,A: 0xCB 0xBF, R324
  | set0B -- SET 0,B: 0xCB 0xC0, R325
  | set0C -- SET 0,C: 0xCB 0xC1, R325
  | set0D -- SET 0,D: 0xCB 0xC2, R325
  | set0E -- SET 0,E: 0xCB 0xC3, R325
  | set0H -- SET 0,H: 0xCB 0xC4, R325
  | set0L -- SET 0,L: 0xCB 0xC5, R325
  | set0AtHl -- SET 0,(HL): 0xCB 0xC6, R325
  | set0A -- SET 0,A: 0xCB 0xC7, R325
  | set1B -- SET 1,B: 0xCB 0xC8, R325
  | set1C -- SET 1,C: 0xCB 0xC9, R325
  | set1D -- SET 1,D: 0xCB 0xCA, R325
  | set1E -- SET 1,E: 0xCB 0xCB, R325
  | set1H -- SET 1,H: 0xCB 0xCC, R325
  | set1L -- SET 1,L: 0xCB 0xCD, R325
  | set1AtHl -- SET 1,(HL): 0xCB 0xCE, R325
  | set1A -- SET 1,A: 0xCB 0xCF, R325
  | set2B -- SET 2,B: 0xCB 0xD0, R325
  | set2C -- SET 2,C: 0xCB 0xD1, R325
  | set2D -- SET 2,D: 0xCB 0xD2, R325
  | set2E -- SET 2,E: 0xCB 0xD3, R325
  | set2H -- SET 2,H: 0xCB 0xD4, R325
  | set2L -- SET 2,L: 0xCB 0xD5, R325
  | set2AtHl -- SET 2,(HL): 0xCB 0xD6, R325
  | set2A -- SET 2,A: 0xCB 0xD7, R325
  | set3B -- SET 3,B: 0xCB 0xD8, R325
  | set3C -- SET 3,C: 0xCB 0xD9, R325
  | set3D -- SET 3,D: 0xCB 0xDA, R325
  | set3E -- SET 3,E: 0xCB 0xDB, R325
  | set3H -- SET 3,H: 0xCB 0xDC, R325
  | set3L -- SET 3,L: 0xCB 0xDD, R325
  | set3AtHl -- SET 3,(HL): 0xCB 0xDE, R325
  | set3A -- SET 3,A: 0xCB 0xDF, R325
  | set4B -- SET 4,B: 0xCB 0xE0, R325
  | set4C -- SET 4,C: 0xCB 0xE1, R325
  | set4D -- SET 4,D: 0xCB 0xE2, R325
  | set4E -- SET 4,E: 0xCB 0xE3, R325
  | set4H -- SET 4,H: 0xCB 0xE4, R325
  | set4L -- SET 4,L: 0xCB 0xE5, R325
  | set4AtHl -- SET 4,(HL): 0xCB 0xE6, R325
  | set4A -- SET 4,A: 0xCB 0xE7, R325
  | set5B -- SET 5,B: 0xCB 0xE8, R325
  | set5C -- SET 5,C: 0xCB 0xE9, R325
  | set5D -- SET 5,D: 0xCB 0xEA, R325
  | set5E -- SET 5,E: 0xCB 0xEB, R325
  | set5H -- SET 5,H: 0xCB 0xEC, R325
  | set5L -- SET 5,L: 0xCB 0xED, R325
  | set5AtHl -- SET 5,(HL): 0xCB 0xEE, R325
  | set5A -- SET 5,A: 0xCB 0xEF, R325
  | set6B -- SET 6,B: 0xCB 0xF0, R325
  | set6C -- SET 6,C: 0xCB 0xF1, R325
  | set6D -- SET 6,D: 0xCB 0xF2, R325
  | set6E -- SET 6,E: 0xCB 0xF3, R325
  | set6H -- SET 6,H: 0xCB 0xF4, R325
  | set6L -- SET 6,L: 0xCB 0xF5, R325
  | set6AtHl -- SET 6,(HL): 0xCB 0xF6, R325
  | set6A -- SET 6,A: 0xCB 0xF7, R325
  | set7B -- SET 7,B: 0xCB 0xF8, R325
  | set7C -- SET 7,C: 0xCB 0xF9, R325
  | set7D -- SET 7,D: 0xCB 0xFA, R325
  | set7E -- SET 7,E: 0xCB 0xFB, R325
  | set7H -- SET 7,H: 0xCB 0xFC, R325
  | set7L -- SET 7,L: 0xCB 0xFD, R325
  | set7AtHl -- SET 7,(HL): 0xCB 0xFE, R325
  | set7A -- SET 7,A: 0xCB 0xFF, R325
  deriving DecidableEq, Repr

end Sys2Proof
end

