-- ==== Sys2Proof/Decode.lean ====
section
/-! DEFINITION. Decoding by bit fields (30_encoding.md R120 to R137) and encoding from the opcode
maps (R138, R139). -/

namespace Sys2Proof

/-! ## Names: the constructor that stands for an operation and its operands -/

/-- `LD r8[y],r8[z]`, with HALT at the pair (110,110) (30_encoding.md R132). -/
def Instr.class01 : R8 → R8 → Instr
  | .reg .b, .reg .b => .ldBB
  | .reg .b, .reg .c => .ldBC
  | .reg .b, .reg .d => .ldBD
  | .reg .b, .reg .e => .ldBE
  | .reg .b, .reg .h => .ldBH
  | .reg .b, .reg .l => .ldBL
  | .reg .b, .atHl => .ldBAtHl
  | .reg .b, .reg .a => .ldBA
  | .reg .c, .reg .b => .ldCB
  | .reg .c, .reg .c => .ldCC
  | .reg .c, .reg .d => .ldCD
  | .reg .c, .reg .e => .ldCE
  | .reg .c, .reg .h => .ldCH
  | .reg .c, .reg .l => .ldCL
  | .reg .c, .atHl => .ldCAtHl
  | .reg .c, .reg .a => .ldCA
  | .reg .d, .reg .b => .ldDB
  | .reg .d, .reg .c => .ldDC
  | .reg .d, .reg .d => .ldDD
  | .reg .d, .reg .e => .ldDE
  | .reg .d, .reg .h => .ldDH
  | .reg .d, .reg .l => .ldDL
  | .reg .d, .atHl => .ldDAtHl
  | .reg .d, .reg .a => .ldDA
  | .reg .e, .reg .b => .ldEB
  | .reg .e, .reg .c => .ldEC
  | .reg .e, .reg .d => .ldED
  | .reg .e, .reg .e => .ldEE
  | .reg .e, .reg .h => .ldEH
  | .reg .e, .reg .l => .ldEL
  | .reg .e, .atHl => .ldEAtHl
  | .reg .e, .reg .a => .ldEA
  | .reg .h, .reg .b => .ldHB
  | .reg .h, .reg .c => .ldHC
  | .reg .h, .reg .d => .ldHD
  | .reg .h, .reg .e => .ldHE
  | .reg .h, .reg .h => .ldHH
  | .reg .h, .reg .l => .ldHL
  | .reg .h, .atHl => .ldHAtHl
  | .reg .h, .reg .a => .ldHA
  | .reg .l, .reg .b => .ldLB
  | .reg .l, .reg .c => .ldLC
  | .reg .l, .reg .d => .ldLD
  | .reg .l, .reg .e => .ldLE
  | .reg .l, .reg .h => .ldLH
  | .reg .l, .reg .l => .ldLL
  | .reg .l, .atHl => .ldLAtHl
  | .reg .l, .reg .a => .ldLA
  | .atHl, .reg .b => .ldAtHlB
  | .atHl, .reg .c => .ldAtHlC
  | .atHl, .reg .d => .ldAtHlD
  | .atHl, .reg .e => .ldAtHlE
  | .atHl, .reg .h => .ldAtHlH
  | .atHl, .reg .l => .ldAtHlL
  | .atHl, .atHl => .halt
  | .atHl, .reg .a => .ldAtHlA
  | .reg .a, .reg .b => .ldAB
  | .reg .a, .reg .c => .ldAC
  | .reg .a, .reg .d => .ldAD
  | .reg .a, .reg .e => .ldAE
  | .reg .a, .reg .h => .ldAH
  | .reg .a, .reg .l => .ldAL
  | .reg .a, .atHl => .ldAAtHl
  | .reg .a, .reg .a => .ldAA

/-- `alu[y] A,r8[z]` (30_encoding.md R133). -/
def Instr.aluR8 : AluOp → R8 → Instr
  | .add, .reg .b => .addAB
  | .add, .reg .c => .addAC
  | .add, .reg .d => .addAD
  | .add, .reg .e => .addAE
  | .add, .reg .h => .addAH
  | .add, .reg .l => .addAL
  | .add, .atHl => .addAAtHl
  | .add, .reg .a => .addAA
  | .adc, .reg .b => .adcAB
  | .adc, .reg .c => .adcAC
  | .adc, .reg .d => .adcAD
  | .adc, .reg .e => .adcAE
  | .adc, .reg .h => .adcAH
  | .adc, .reg .l => .adcAL
  | .adc, .atHl => .adcAAtHl
  | .adc, .reg .a => .adcAA
  | .sub, .reg .b => .subAB
  | .sub, .reg .c => .subAC
  | .sub, .reg .d => .subAD
  | .sub, .reg .e => .subAE
  | .sub, .reg .h => .subAH
  | .sub, .reg .l => .subAL
  | .sub, .atHl => .subAAtHl
  | .sub, .reg .a => .subAA
  | .sbc, .reg .b => .sbcAB
  | .sbc, .reg .c => .sbcAC
  | .sbc, .reg .d => .sbcAD
  | .sbc, .reg .e => .sbcAE
  | .sbc, .reg .h => .sbcAH
  | .sbc, .reg .l => .sbcAL
  | .sbc, .atHl => .sbcAAtHl
  | .sbc, .reg .a => .sbcAA
  | .and, .reg .b => .andAB
  | .and, .reg .c => .andAC
  | .and, .reg .d => .andAD
  | .and, .reg .e => .andAE
  | .and, .reg .h => .andAH
  | .and, .reg .l => .andAL
  | .and, .atHl => .andAAtHl
  | .and, .reg .a => .andAA
  | .xor, .reg .b => .xorAB
  | .xor, .reg .c => .xorAC
  | .xor, .reg .d => .xorAD
  | .xor, .reg .e => .xorAE
  | .xor, .reg .h => .xorAH
  | .xor, .reg .l => .xorAL
  | .xor, .atHl => .xorAAtHl
  | .xor, .reg .a => .xorAA
  | .or, .reg .b => .orAB
  | .or, .reg .c => .orAC
  | .or, .reg .d => .orAD
  | .or, .reg .e => .orAE
  | .or, .reg .h => .orAH
  | .or, .reg .l => .orAL
  | .or, .atHl => .orAAtHl
  | .or, .reg .a => .orAA
  | .cp, .reg .b => .cpAB
  | .cp, .reg .c => .cpAC
  | .cp, .reg .d => .cpAD
  | .cp, .reg .e => .cpAE
  | .cp, .reg .h => .cpAH
  | .cp, .reg .l => .cpAL
  | .cp, .atHl => .cpAAtHl
  | .cp, .reg .a => .cpAA

/-- `alu[y] A,n8` (30_encoding.md R134). -/
def Instr.aluN8 : AluOp → Byte → Instr
  | .add, n => .addAN8 n
  | .adc, n => .adcAN8 n
  | .sub, n => .subAN8 n
  | .sbc, n => .sbcAN8 n
  | .and, n => .andAN8 n
  | .xor, n => .xorAN8 n
  | .or, n => .orAN8 n
  | .cp, n => .cpAN8 n

/-- `INC r8[y]` (30_encoding.md R131). -/
def Instr.incR8 : R8 → Instr
  | .reg .b => .incB
  | .reg .c => .incC
  | .reg .d => .incD
  | .reg .e => .incE
  | .reg .h => .incH
  | .reg .l => .incL
  | .atHl => .incAtHl
  | .reg .a => .incA

/-- `DEC r8[y]` (30_encoding.md R131). -/
def Instr.decR8 : R8 → Instr
  | .reg .b => .decB
  | .reg .c => .decC
  | .reg .d => .decD
  | .reg .e => .decE
  | .reg .h => .decH
  | .reg .l => .decL
  | .atHl => .decAtHl
  | .reg .a => .decA

/-- `LD r8[y],n8` (30_encoding.md R131). -/
def Instr.ldR8N8 : R8 → Byte → Instr
  | .reg .b, n => .ldBN8 n
  | .reg .c, n => .ldCN8 n
  | .reg .d, n => .ldDN8 n
  | .reg .e, n => .ldEN8 n
  | .reg .h, n => .ldHN8 n
  | .reg .l, n => .ldLN8 n
  | .atHl, n => .ldAtHlN8 n
  | .reg .a, n => .ldAN8 n

/-- `LD rp[p],n16` (30_encoding.md R131). -/
def Instr.ldPairN16 : Pair → Word → Instr
  | .bc, nn => .ldBcN16 nn
  | .de, nn => .ldDeN16 nn
  | .hl, nn => .ldHlN16 nn
  | .sp, nn => .ldSpN16 nn

/-- `ADD HL,rp[p]` (30_encoding.md R131). -/
def Instr.addHlPair : Pair → Instr
  | .bc => .addHlBc
  | .de => .addHlDe
  | .hl => .addHlHl
  | .sp => .addHlSp

/-- `INC rp[p]` (30_encoding.md R131). -/
def Instr.incPair : Pair → Instr
  | .bc => .incBc
  | .de => .incDe
  | .hl => .incHl
  | .sp => .incSp

/-- `DEC rp[p]` (30_encoding.md R131). -/
def Instr.decPair : Pair → Instr
  | .bc => .decBc
  | .de => .decDe
  | .hl => .decHl
  | .sp => .decSp

/-- `PUSH rp2[p]` (30_encoding.md R134). -/
def Instr.pushPair : StackPair → Instr
  | .bc => .pushBc
  | .de => .pushDe
  | .hl => .pushHl
  | .af => .pushAf

/-- `POP rp2[p]` (30_encoding.md R134). -/
def Instr.popPair : StackPair → Instr
  | .bc => .popBc
  | .de => .popDe
  | .hl => .popHl
  | .af => .popAf

/-- `LD (BC),A`, `LD (DE),A`, `LD (HL+),A`, `LD (HL-),A` (30_encoding.md R131). -/
def Instr.storeInd : IndAddr → Instr
  | .bc => .ldAtBcA
  | .de => .ldAtDeA
  | .hlInc => .ldAtHlIncA
  | .hlDec => .ldAtHlDecA

/-- `LD A,(BC)`, `LD A,(DE)`, `LD A,(HL+)`, `LD A,(HL-)` (30_encoding.md R131). -/
def Instr.loadInd : IndAddr → Instr
  | .bc => .ldAAtBc
  | .de => .ldAAtDe
  | .hlInc => .ldAAtHlInc
  | .hlDec => .ldAAtHlDec

/-- Class 00, z = 111 (30_encoding.md R131). -/
def Instr.accOp : AccOp → Instr
  | .rlca => .rlca
  | .rrca => .rrca
  | .rla => .rla
  | .rra => .rra
  | .daa => .daa
  | .cpl => .cpl
  | .scf => .scf
  | .ccf => .ccf

/-- `JR cc,e8` (30_encoding.md R131). -/
def Instr.jrCc : Cond → Byte → Instr
  | .nz, e => .jrNzE8 e
  | .z, e => .jrZE8 e
  | .nc, e => .jrNcE8 e
  | .c, e => .jrCE8 e

/-- `JP cc[y],a16` (30_encoding.md R134). -/
def Instr.jpCc : Cond → Word → Instr
  | .nz, addr => .jpNzA16 addr
  | .z, addr => .jpZA16 addr
  | .nc, addr => .jpNcA16 addr
  | .c, addr => .jpCA16 addr

/-- `CALL cc[y],a16` (30_encoding.md R134). -/
def Instr.callCc : Cond → Word → Instr
  | .nz, addr => .callNzA16 addr
  | .z, addr => .callZA16 addr
  | .nc, addr => .callNcA16 addr
  | .c, addr => .callCA16 addr

/-- `RET cc[y]` (30_encoding.md R134). -/
def Instr.retCc : Cond → Instr
  | .nz => .retNz
  | .z => .retZ
  | .nc => .retNc
  | .c => .retC

/-- `RST y*8` (30_encoding.md R134). -/
def Instr.rst : Fin 8 → Instr
  | 0 => .rst00
  | 1 => .rst08
  | 2 => .rst10
  | 3 => .rst18
  | 4 => .rst20
  | 5 => .rst28
  | 6 => .rst30
  | 7 => .rst38

/-- `rot[y] r8[z]` of the extended table (30_encoding.md R135). -/
def Instr.rot : RotOp → R8 → Instr
  | .rlc, .reg .b => .rlcB
  | .rlc, .reg .c => .rlcC
  | .rlc, .reg .d => .rlcD
  | .rlc, .reg .e => .rlcE
  | .rlc, .reg .h => .rlcH
  | .rlc, .reg .l => .rlcL
  | .rlc, .atHl => .rlcAtHl
  | .rlc, .reg .a => .rlcA
  | .rrc, .reg .b => .rrcB
  | .rrc, .reg .c => .rrcC
  | .rrc, .reg .d => .rrcD
  | .rrc, .reg .e => .rrcE
  | .rrc, .reg .h => .rrcH
  | .rrc, .reg .l => .rrcL
  | .rrc, .atHl => .rrcAtHl
  | .rrc, .reg .a => .rrcA
  | .rl, .reg .b => .rlB
  | .rl, .reg .c => .rlC
  | .rl, .reg .d => .rlD
  | .rl, .reg .e => .rlE
  | .rl, .reg .h => .rlH
  | .rl, .reg .l => .rlL
  | .rl, .atHl => .rlAtHl
  | .rl, .reg .a => .rlA
  | .rr, .reg .b => .rrB
  | .rr, .reg .c => .rrC
  | .rr, .reg .d => .rrD
  | .rr, .reg .e => .rrE
  | .rr, .reg .h => .rrH
  | .rr, .reg .l => .rrL
  | .rr, .atHl => .rrAtHl
  | .rr, .reg .a => .rrA
  | .sla, .reg .b => .slaB
  | .sla, .reg .c => .slaC
  | .sla, .reg .d => .slaD
  | .sla, .reg .e => .slaE
  | .sla, .reg .h => .slaH
  | .sla, .reg .l => .slaL
  | .sla, .atHl => .slaAtHl
  | .sla, .reg .a => .slaA
  | .sra, .reg .b => .sraB
  | .sra, .reg .c => .sraC
  | .sra, .reg .d => .sraD
  | .sra, .reg .e => .sraE
  | .sra, .reg .h => .sraH
  | .sra, .reg .l => .sraL
  | .sra, .atHl => .sraAtHl
  | .sra, .reg .a => .sraA
  | .swap, .reg .b => .swapB
  | .swap, .reg .c => .swapC
  | .swap, .reg .d => .swapD
  | .swap, .reg .e => .swapE
  | .swap, .reg .h => .swapH
  | .swap, .reg .l => .swapL
  | .swap, .atHl => .swapAtHl
  | .swap, .reg .a => .swapA
  | .srl, .reg .b => .srlB
  | .srl, .reg .c => .srlC
  | .srl, .reg .d => .srlD
  | .srl, .reg .e => .srlE
  | .srl, .reg .h => .srlH
  | .srl, .reg .l => .srlL
  | .srl, .atHl => .srlAtHl
  | .srl, .reg .a => .srlA

/-- `BIT y,r8[z]` of the extended table (30_encoding.md R135). -/
def Instr.bit : Fin 8 → R8 → Instr
  | 0, .reg .b => .bit0B
  | 0, .reg .c => .bit0C
  | 0, .reg .d => .bit0D
  | 0, .reg .e => .bit0E
  | 0, .reg .h => .bit0H
  | 0, .reg .l => .bit0L
  | 0, .atHl => .bit0AtHl
  | 0, .reg .a => .bit0A
  | 1, .reg .b => .bit1B
  | 1, .reg .c => .bit1C
  | 1, .reg .d => .bit1D
  | 1, .reg .e => .bit1E
  | 1, .reg .h => .bit1H
  | 1, .reg .l => .bit1L
  | 1, .atHl => .bit1AtHl
  | 1, .reg .a => .bit1A
  | 2, .reg .b => .bit2B
  | 2, .reg .c => .bit2C
  | 2, .reg .d => .bit2D
  | 2, .reg .e => .bit2E
  | 2, .reg .h => .bit2H
  | 2, .reg .l => .bit2L
  | 2, .atHl => .bit2AtHl
  | 2, .reg .a => .bit2A
  | 3, .reg .b => .bit3B
  | 3, .reg .c => .bit3C
  | 3, .reg .d => .bit3D
  | 3, .reg .e => .bit3E
  | 3, .reg .h => .bit3H
  | 3, .reg .l => .bit3L
  | 3, .atHl => .bit3AtHl
  | 3, .reg .a => .bit3A
  | 4, .reg .b => .bit4B
  | 4, .reg .c => .bit4C
  | 4, .reg .d => .bit4D
  | 4, .reg .e => .bit4E
  | 4, .reg .h => .bit4H
  | 4, .reg .l => .bit4L
  | 4, .atHl => .bit4AtHl
  | 4, .reg .a => .bit4A
  | 5, .reg .b => .bit5B
  | 5, .reg .c => .bit5C
  | 5, .reg .d => .bit5D
  | 5, .reg .e => .bit5E
  | 5, .reg .h => .bit5H
  | 5, .reg .l => .bit5L
  | 5, .atHl => .bit5AtHl
  | 5, .reg .a => .bit5A
  | 6, .reg .b => .bit6B
  | 6, .reg .c => .bit6C
  | 6, .reg .d => .bit6D
  | 6, .reg .e => .bit6E
  | 6, .reg .h => .bit6H
  | 6, .reg .l => .bit6L
  | 6, .atHl => .bit6AtHl
  | 6, .reg .a => .bit6A
  | 7, .reg .b => .bit7B
  | 7, .reg .c => .bit7C
  | 7, .reg .d => .bit7D
  | 7, .reg .e => .bit7E
  | 7, .reg .h => .bit7H
  | 7, .reg .l => .bit7L
  | 7, .atHl => .bit7AtHl
  | 7, .reg .a => .bit7A

/-- `RES y,r8[z]` of the extended table (30_encoding.md R135). -/
def Instr.res : Fin 8 → R8 → Instr
  | 0, .reg .b => .res0B
  | 0, .reg .c => .res0C
  | 0, .reg .d => .res0D
  | 0, .reg .e => .res0E
  | 0, .reg .h => .res0H
  | 0, .reg .l => .res0L
  | 0, .atHl => .res0AtHl
  | 0, .reg .a => .res0A
  | 1, .reg .b => .res1B
  | 1, .reg .c => .res1C
  | 1, .reg .d => .res1D
  | 1, .reg .e => .res1E
  | 1, .reg .h => .res1H
  | 1, .reg .l => .res1L
  | 1, .atHl => .res1AtHl
  | 1, .reg .a => .res1A
  | 2, .reg .b => .res2B
  | 2, .reg .c => .res2C
  | 2, .reg .d => .res2D
  | 2, .reg .e => .res2E
  | 2, .reg .h => .res2H
  | 2, .reg .l => .res2L
  | 2, .atHl => .res2AtHl
  | 2, .reg .a => .res2A
  | 3, .reg .b => .res3B
  | 3, .reg .c => .res3C
  | 3, .reg .d => .res3D
  | 3, .reg .e => .res3E
  | 3, .reg .h => .res3H
  | 3, .reg .l => .res3L
  | 3, .atHl => .res3AtHl
  | 3, .reg .a => .res3A
  | 4, .reg .b => .res4B
  | 4, .reg .c => .res4C
  | 4, .reg .d => .res4D
  | 4, .reg .e => .res4E
  | 4, .reg .h => .res4H
  | 4, .reg .l => .res4L
  | 4, .atHl => .res4AtHl
  | 4, .reg .a => .res4A
  | 5, .reg .b => .res5B
  | 5, .reg .c => .res5C
  | 5, .reg .d => .res5D
  | 5, .reg .e => .res5E
  | 5, .reg .h => .res5H
  | 5, .reg .l => .res5L
  | 5, .atHl => .res5AtHl
  | 5, .reg .a => .res5A
  | 6, .reg .b => .res6B
  | 6, .reg .c => .res6C
  | 6, .reg .d => .res6D
  | 6, .reg .e => .res6E
  | 6, .reg .h => .res6H
  | 6, .reg .l => .res6L
  | 6, .atHl => .res6AtHl
  | 6, .reg .a => .res6A
  | 7, .reg .b => .res7B
  | 7, .reg .c => .res7C
  | 7, .reg .d => .res7D
  | 7, .reg .e => .res7E
  | 7, .reg .h => .res7H
  | 7, .reg .l => .res7L
  | 7, .atHl => .res7AtHl
  | 7, .reg .a => .res7A

/-- `SET y,r8[z]` of the extended table (30_encoding.md R135). -/
def Instr.set : Fin 8 → R8 → Instr
  | 0, .reg .b => .set0B
  | 0, .reg .c => .set0C
  | 0, .reg .d => .set0D
  | 0, .reg .e => .set0E
  | 0, .reg .h => .set0H
  | 0, .reg .l => .set0L
  | 0, .atHl => .set0AtHl
  | 0, .reg .a => .set0A
  | 1, .reg .b => .set1B
  | 1, .reg .c => .set1C
  | 1, .reg .d => .set1D
  | 1, .reg .e => .set1E
  | 1, .reg .h => .set1H
  | 1, .reg .l => .set1L
  | 1, .atHl => .set1AtHl
  | 1, .reg .a => .set1A
  | 2, .reg .b => .set2B
  | 2, .reg .c => .set2C
  | 2, .reg .d => .set2D
  | 2, .reg .e => .set2E
  | 2, .reg .h => .set2H
  | 2, .reg .l => .set2L
  | 2, .atHl => .set2AtHl
  | 2, .reg .a => .set2A
  | 3, .reg .b => .set3B
  | 3, .reg .c => .set3C
  | 3, .reg .d => .set3D
  | 3, .reg .e => .set3E
  | 3, .reg .h => .set3H
  | 3, .reg .l => .set3L
  | 3, .atHl => .set3AtHl
  | 3, .reg .a => .set3A
  | 4, .reg .b => .set4B
  | 4, .reg .c => .set4C
  | 4, .reg .d => .set4D
  | 4, .reg .e => .set4E
  | 4, .reg .h => .set4H
  | 4, .reg .l => .set4L
  | 4, .atHl => .set4AtHl
  | 4, .reg .a => .set4A
  | 5, .reg .b => .set5B
  | 5, .reg .c => .set5C
  | 5, .reg .d => .set5D
  | 5, .reg .e => .set5E
  | 5, .reg .h => .set5H
  | 5, .reg .l => .set5L
  | 5, .atHl => .set5AtHl
  | 5, .reg .a => .set5A
  | 6, .reg .b => .set6B
  | 6, .reg .c => .set6C
  | 6, .reg .d => .set6D
  | 6, .reg .e => .set6E
  | 6, .reg .h => .set6H
  | 6, .reg .l => .set6L
  | 6, .atHl => .set6AtHl
  | 6, .reg .a => .set6A
  | 7, .reg .b => .set7B
  | 7, .reg .c => .set7C
  | 7, .reg .d => .set7D
  | 7, .reg .e => .set7E
  | 7, .reg .h => .set7H
  | 7, .reg .l => .set7L
  | 7, .atHl => .set7AtHl
  | 7, .reg .a => .set7A

/-! ## Fields (30_encoding.md R122) -/

/-- The fields of an opcode byte: `x` = op[7:6], `y` = op[5:3], `z` = op[2:0], `p` = op[5:4],
`q` = op[3]. -/
def fieldX (op : Byte) : Nat := (op.extractLsb' 6 2).toNat
def fieldY (op : Byte) : Nat := (op.extractLsb' 3 3).toNat
def fieldZ (op : Byte) : Nat := (op.extractLsb' 0 3).toNat
def fieldP (op : Byte) : Nat := (op.extractLsb' 4 2).toNat
def fieldQ (op : Byte) : Nat := (op.extractLsb' 3 1).toNat

/-- The register code's operand (30_encoding.md R123). -/
def r8OfCode : Nat → R8
  | 0 => .reg .b
  | 1 => .reg .c
  | 2 => .reg .d
  | 3 => .reg .e
  | 4 => .reg .h
  | 5 => .reg .l
  | 6 => .atHl
  | _ => .reg .a

/-- The pair of an index (30_encoding.md R124). -/
def pairOfCode : Nat → Pair
  | 0 => .bc
  | 1 => .de
  | 2 => .hl
  | _ => .sp

/-- The stack pair of an index (30_encoding.md R125). -/
def stackPairOfCode : Nat → StackPair
  | 0 => .bc
  | 1 => .de
  | 2 => .hl
  | _ => .af

/-- The condition of a code (30_encoding.md R126). -/
def condOfCode : Nat → Cond
  | 0 => .nz
  | 1 => .z
  | 2 => .nc
  | _ => .c

/-- The ALU operation of a code (30_encoding.md R128). -/
def aluOfCode : Nat → AluOp
  | 0 => .add
  | 1 => .adc
  | 2 => .sub
  | 3 => .sbc
  | 4 => .and
  | 5 => .xor
  | 6 => .or
  | _ => .cp

/-- The rotate or shift of a code (30_encoding.md R129). -/
def rotOfCode : Nat → RotOp
  | 0 => .rlc
  | 1 => .rrc
  | 2 => .rl
  | 3 => .rr
  | 4 => .sla
  | 5 => .sra
  | 6 => .swap
  | _ => .srl

/-- The indirect address of a pair index (30_encoding.md R131, z = 010). -/
def indOfCode : Nat → IndAddr
  | 0 => .bc
  | 1 => .de
  | 2 => .hlInc
  | _ => .hlDec

/-- The accumulator operation of a code (30_encoding.md R131, z = 111). -/
def accOfCode : Nat → AccOp
  | 0 => .rlca
  | 1 => .rrca
  | 2 => .rla
  | 3 => .rra
  | 4 => .daa
  | 5 => .cpl
  | 6 => .scf
  | _ => .ccf

/-- The bit index or restart number of a three-bit code. -/
def index8 (y : Nat) : Fin 8 := ⟨y % 8, Nat.mod_lt y (by decide)⟩

/-! ## The decode tree -/

/-- Class 00 (30_encoding.md R131); `n` and `nn` are the immediate byte and word. -/
def decodeClass0 (op n : Byte) (nn : Word) : Instr :=
  let y := fieldY op
  let p := fieldP op
  let q := fieldQ op
  match fieldZ op with
  | 0 =>
    match y with
    | 0 => .nop
    | 1 => .ldAtA16Sp nn
    | 2 => .stop
    | 3 => .jrE8 n
    | y => Instr.jrCc (condOfCode (y - 4)) n
  | 1 => if q = 0 then Instr.ldPairN16 (pairOfCode p) nn else Instr.addHlPair (pairOfCode p)
  | 2 => if q = 0 then Instr.storeInd (indOfCode p) else Instr.loadInd (indOfCode p)
  | 3 => if q = 0 then Instr.incPair (pairOfCode p) else Instr.decPair (pairOfCode p)
  | 4 => Instr.incR8 (r8OfCode y)
  | 5 => Instr.decR8 (r8OfCode y)
  | 6 => Instr.ldR8N8 (r8OfCode y) n
  | _ => Instr.accOp (accOfCode y)

/-- Class 11 without the prefix (30_encoding.md R134). -/
def decodeClass3 (op n : Byte) (nn : Word) : Instr :=
  let y := fieldY op
  let p := fieldP op
  let q := fieldQ op
  match fieldZ op with
  | 0 =>
    match y with
    | 4 => .ldhAtA8A n
    | 5 => .addSpE8 n
    | 6 => .ldhAAtA8 n
    | 7 => .ldHlSpE8 n
    | y => Instr.retCc (condOfCode y)
  | 1 =>
    if q = 0 then Instr.popPair (stackPairOfCode p)
    else match p with
      | 0 => .ret
      | 1 => .reti
      | 2 => .jpHl
      | _ => .ldSpHl
  | 2 =>
    match y with
    | 4 => .ldAtCA
    | 5 => .ldAtA16A nn
    | 6 => .ldAAtC
    | 7 => .ldAAtA16 nn
    | y => Instr.jpCc (condOfCode y) nn
  | 3 =>
    match y with
    | 0 => .jpA16 nn
    | 6 => .di
    | 7 => .ei
    | _ => .illegal op
  | 4 => if y < 4 then Instr.callCc (condOfCode y) nn else .illegal op
  | 5 =>
    if q = 0 then Instr.pushPair (stackPairOfCode p)
    else match p with
      | 0 => .callA16 nn
      | _ => .illegal op
  | 6 => Instr.aluN8 (aluOfCode y) n
  | _ => Instr.rst (index8 y)

/-- The extended table (30_encoding.md R135). -/
def decodeExtended (cbop : Byte) : Instr :=
  let y := fieldY cbop
  let r := r8OfCode (fieldZ cbop)
  match fieldX cbop with
  | 0 => Instr.rot (rotOfCode y) r
  | 1 => Instr.bit (index8 y) r
  | 2 => Instr.res (index8 y) r
  | _ => Instr.set (index8 y) r

/-- `lo` and `hi` of an immediate word, and the word of the two (20_memory.md R98). -/
def lowByte (v : Word) : Byte := v.extractLsb' 0 8
def highByte (v : Word) : Byte := v.extractLsb' 8 8
def wordOf (hi lo : Byte) : Word := hi ++ lo

/-- The instruction of an opcode byte and the two bytes after it; a byte that the instruction does
not have is ignored. After the prefix the first of them is the extended opcode (R135). -/
def decodeInstr (op b1 b2 : Byte) : Instr :=
  if op = 0xCB then decodeExtended b1
  else match fieldX op with
    | 0 => decodeClass0 op b1 (wordOf b2 b1)
    | 1 => Instr.class01 (r8OfCode (fieldY op)) (r8OfCode (fieldZ op))
    | 2 => Instr.aluR8 (aluOfCode (fieldY op)) (r8OfCode (fieldZ op))
    | _ => decodeClass3 op b1 (wordOf b2 b1)

/-- How many bytes follow the opcode byte: a function of that byte alone (30_encoding.md R120, R121). -/
def operandBytes (op : Byte) : Nat :=
  let y := fieldY op
  let q := fieldQ op
  match fieldX op, fieldZ op with
  | 0, 0 => if y = 1 then 2 else if 3 ≤ y then 1 else 0
  | 0, 1 => if q = 0 then 2 else 0
  | 0, 6 => 1
  | 3, 0 => if 4 ≤ y then 1 else 0
  | 3, 2 => if y < 4 ∨ y = 5 ∨ y = 7 then 2 else 0
  | 3, 3 => if y = 0 then 2 else if y = 1 then 1 else 0
  | 3, 4 => if y < 4 then 2 else 0
  | 3, 5 => if y = 1 then 2 else 0
  | 3, 6 => 1
  | _, _ => 0

/-- Why bytes are no instruction: there are none, or the instruction's last bytes are missing. -/
inductive DecodeError where
  | noBytes
  | truncated (op : Byte)
  deriving DecidableEq, Repr

/-- The instruction at the head of a list of bytes and the bytes after it. The prefix byte alone is
the row PREFIX CB of the opcode table (log 12); followed by a byte it is an extended instruction. -/
def decode : List Byte → Except DecodeError (Instr × List Byte)
  | [] => .error .noBytes
  | op :: rest =>
    if op = 0xCB ∧ rest = [] then .ok (.prefixCb, [])
    else if rest.length < operandBytes op then .error (.truncated op)
    else .ok (decodeInstr op (rest.getD 0 0) (rest.getD 1 0), rest.drop (operandBytes op))

/-! ## Encoding -/

/-- The bytes of an instruction, lowest address first, from the opcode maps (30_encoding.md R138,
R139). -/
def encode : Instr → List Byte
  | .nop => [0x00]
  | .ldBcN16 nn => [0x01, lowByte nn, highByte nn]
  | .ldAtBcA => [0x02]
  | .incBc => [0x03]
  | .incB => [0x04]
  | .decB => [0x05]
  | .ldBN8 n => [0x06, n]
  | .rlca => [0x07]
  | .ldAtA16Sp addr => [0x08, lowByte addr, highByte addr]
  | .addHlBc => [0x09]
  | .ldAAtBc => [0x0A]
  | .decBc => [0x0B]
  | .incC => [0x0C]
  | .decC => [0x0D]
  | .ldCN8 n => [0x0E, n]
  | .rrca => [0x0F]
  | .stop => [0x10]
  | .ldDeN16 nn => [0x11, lowByte nn, highByte nn]
  | .ldAtDeA => [0x12]
  | .incDe => [0x13]
  | .incD => [0x14]
  | .decD => [0x15]
  | .ldDN8 n => [0x16, n]
  | .rla => [0x17]
  | .jrE8 e => [0x18, e]
  | .addHlDe => [0x19]
  | .ldAAtDe => [0x1A]
  | .decDe => [0x1B]
  | .incE => [0x1C]
  | .decE => [0x1D]
  | .ldEN8 n => [0x1E, n]
  | .rra => [0x1F]
  | .jrNzE8 e => [0x20, e]
  | .ldHlN16 nn => [0x21, lowByte nn, highByte nn]
  | .ldAtHlIncA => [0x22]
  | .incHl => [0x23]
  | .incH => [0x24]
  | .decH => [0x25]
  | .ldHN8 n => [0x26, n]
  | .daa => [0x27]
  | .jrZE8 e => [0x28, e]
  | .addHlHl => [0x29]
  | .ldAAtHlInc => [0x2A]
  | .decHl => [0x2B]
  | .incL => [0x2C]
  | .decL => [0x2D]
  | .ldLN8 n => [0x2E, n]
  | .cpl => [0x2F]
  | .jrNcE8 e => [0x30, e]
  | .ldSpN16 nn => [0x31, lowByte nn, highByte nn]
  | .ldAtHlDecA => [0x32]
  | .incSp => [0x33]
  | .incAtHl => [0x34]
  | .decAtHl => [0x35]
  | .ldAtHlN8 n => [0x36, n]
  | .scf => [0x37]
  | .jrCE8 e => [0x38, e]
  | .addHlSp => [0x39]
  | .ldAAtHlDec => [0x3A]
  | .decSp => [0x3B]
  | .incA => [0x3C]
  | .decA => [0x3D]
  | .ldAN8 n => [0x3E, n]
  | .ccf => [0x3F]
  | .ldBB => [0x40]
  | .ldBC => [0x41]
  | .ldBD => [0x42]
  | .ldBE => [0x43]
  | .ldBH => [0x44]
  | .ldBL => [0x45]
  | .ldBAtHl => [0x46]
  | .ldBA => [0x47]
  | .ldCB => [0x48]
  | .ldCC => [0x49]
  | .ldCD => [0x4A]
  | .ldCE => [0x4B]
  | .ldCH => [0x4C]
  | .ldCL => [0x4D]
  | .ldCAtHl => [0x4E]
  | .ldCA => [0x4F]
  | .ldDB => [0x50]
  | .ldDC => [0x51]
  | .ldDD => [0x52]
  | .ldDE => [0x53]
  | .ldDH => [0x54]
  | .ldDL => [0x55]
  | .ldDAtHl => [0x56]
  | .ldDA => [0x57]
  | .ldEB => [0x58]
  | .ldEC => [0x59]
  | .ldED => [0x5A]
  | .ldEE => [0x5B]
  | .ldEH => [0x5C]
  | .ldEL => [0x5D]
  | .ldEAtHl => [0x5E]
  | .ldEA => [0x5F]
  | .ldHB => [0x60]
  | .ldHC => [0x61]
  | .ldHD => [0x62]
  | .ldHE => [0x63]
  | .ldHH => [0x64]
  | .ldHL => [0x65]
  | .ldHAtHl => [0x66]
  | .ldHA => [0x67]
  | .ldLB => [0x68]
  | .ldLC => [0x69]
  | .ldLD => [0x6A]
  | .ldLE => [0x6B]
  | .ldLH => [0x6C]
  | .ldLL => [0x6D]
  | .ldLAtHl => [0x6E]
  | .ldLA => [0x6F]
  | .ldAtHlB => [0x70]
  | .ldAtHlC => [0x71]
  | .ldAtHlD => [0x72]
  | .ldAtHlE => [0x73]
  | .ldAtHlH => [0x74]
  | .ldAtHlL => [0x75]
  | .halt => [0x76]
  | .ldAtHlA => [0x77]
  | .ldAB => [0x78]
  | .ldAC => [0x79]
  | .ldAD => [0x7A]
  | .ldAE => [0x7B]
  | .ldAH => [0x7C]
  | .ldAL => [0x7D]
  | .ldAAtHl => [0x7E]
  | .ldAA => [0x7F]
  | .addAB => [0x80]
  | .addAC => [0x81]
  | .addAD => [0x82]
  | .addAE => [0x83]
  | .addAH => [0x84]
  | .addAL => [0x85]
  | .addAAtHl => [0x86]
  | .addAA => [0x87]
  | .adcAB => [0x88]
  | .adcAC => [0x89]
  | .adcAD => [0x8A]
  | .adcAE => [0x8B]
  | .adcAH => [0x8C]
  | .adcAL => [0x8D]
  | .adcAAtHl => [0x8E]
  | .adcAA => [0x8F]
  | .subAB => [0x90]
  | .subAC => [0x91]
  | .subAD => [0x92]
  | .subAE => [0x93]
  | .subAH => [0x94]
  | .subAL => [0x95]
  | .subAAtHl => [0x96]
  | .subAA => [0x97]
  | .sbcAB => [0x98]
  | .sbcAC => [0x99]
  | .sbcAD => [0x9A]
  | .sbcAE => [0x9B]
  | .sbcAH => [0x9C]
  | .sbcAL => [0x9D]
  | .sbcAAtHl => [0x9E]
  | .sbcAA => [0x9F]
  | .andAB => [0xA0]
  | .andAC => [0xA1]
  | .andAD => [0xA2]
  | .andAE => [0xA3]
  | .andAH => [0xA4]
  | .andAL => [0xA5]
  | .andAAtHl => [0xA6]
  | .andAA => [0xA7]
  | .xorAB => [0xA8]
  | .xorAC => [0xA9]
  | .xorAD => [0xAA]
  | .xorAE => [0xAB]
  | .xorAH => [0xAC]
  | .xorAL => [0xAD]
  | .xorAAtHl => [0xAE]
  | .xorAA => [0xAF]
  | .orAB => [0xB0]
  | .orAC => [0xB1]
  | .orAD => [0xB2]
  | .orAE => [0xB3]
  | .orAH => [0xB4]
  | .orAL => [0xB5]
  | .orAAtHl => [0xB6]
  | .orAA => [0xB7]
  | .cpAB => [0xB8]
  | .cpAC => [0xB9]
  | .cpAD => [0xBA]
  | .cpAE => [0xBB]
  | .cpAH => [0xBC]
  | .cpAL => [0xBD]
  | .cpAAtHl => [0xBE]
  | .cpAA => [0xBF]
  | .retNz => [0xC0]
  | .popBc => [0xC1]
  | .jpNzA16 addr => [0xC2, lowByte addr, highByte addr]
  | .jpA16 addr => [0xC3, lowByte addr, highByte addr]
  | .callNzA16 addr => [0xC4, lowByte addr, highByte addr]
  | .pushBc => [0xC5]
  | .addAN8 n => [0xC6, n]
  | .rst00 => [0xC7]
  | .retZ => [0xC8]
  | .ret => [0xC9]
  | .jpZA16 addr => [0xCA, lowByte addr, highByte addr]
  | .prefixCb => [0xCB]
  | .callZA16 addr => [0xCC, lowByte addr, highByte addr]
  | .callA16 addr => [0xCD, lowByte addr, highByte addr]
  | .adcAN8 n => [0xCE, n]
  | .rst08 => [0xCF]
  | .retNc => [0xD0]
  | .popDe => [0xD1]
  | .jpNcA16 addr => [0xD2, lowByte addr, highByte addr]
  | .illegal op => [op]
  | .callNcA16 addr => [0xD4, lowByte addr, highByte addr]
  | .pushDe => [0xD5]
  | .subAN8 n => [0xD6, n]
  | .rst10 => [0xD7]
  | .retC => [0xD8]
  | .reti => [0xD9]
  | .jpCA16 addr => [0xDA, lowByte addr, highByte addr]
  | .callCA16 addr => [0xDC, lowByte addr, highByte addr]
  | .sbcAN8 n => [0xDE, n]
  | .rst18 => [0xDF]
  | .ldhAtA8A off => [0xE0, off]
  | .popHl => [0xE1]
  | .ldAtCA => [0xE2]
  | .pushHl => [0xE5]
  | .andAN8 n => [0xE6, n]
  | .rst20 => [0xE7]
  | .addSpE8 e => [0xE8, e]
  | .jpHl => [0xE9]
  | .ldAtA16A addr => [0xEA, lowByte addr, highByte addr]
  | .xorAN8 n => [0xEE, n]
  | .rst28 => [0xEF]
  | .ldhAAtA8 off => [0xF0, off]
  | .popAf => [0xF1]
  | .ldAAtC => [0xF2]
  | .di => [0xF3]
  | .pushAf => [0xF5]
  | .orAN8 n => [0xF6, n]
  | .rst30 => [0xF7]
  | .ldHlSpE8 e => [0xF8, e]
  | .ldSpHl => [0xF9]
  | .ldAAtA16 addr => [0xFA, lowByte addr, highByte addr]
  | .ei => [0xFB]
  | .cpAN8 n => [0xFE, n]
  | .rst38 => [0xFF]
  | .rlcB => [0xCB, 0x00]
  | .rlcC => [0xCB, 0x01]
  | .rlcD => [0xCB, 0x02]
  | .rlcE => [0xCB, 0x03]
  | .rlcH => [0xCB, 0x04]
  | .rlcL => [0xCB, 0x05]
  | .rlcAtHl => [0xCB, 0x06]
  | .rlcA => [0xCB, 0x07]
  | .rrcB => [0xCB, 0x08]
  | .rrcC => [0xCB, 0x09]
  | .rrcD => [0xCB, 0x0A]
  | .rrcE => [0xCB, 0x0B]
  | .rrcH => [0xCB, 0x0C]
  | .rrcL => [0xCB, 0x0D]
  | .rrcAtHl => [0xCB, 0x0E]
  | .rrcA => [0xCB, 0x0F]
  | .rlB => [0xCB, 0x10]
  | .rlC => [0xCB, 0x11]
  | .rlD => [0xCB, 0x12]
  | .rlE => [0xCB, 0x13]
  | .rlH => [0xCB, 0x14]
  | .rlL => [0xCB, 0x15]
  | .rlAtHl => [0xCB, 0x16]
  | .rlA => [0xCB, 0x17]
  | .rrB => [0xCB, 0x18]
  | .rrC => [0xCB, 0x19]
  | .rrD => [0xCB, 0x1A]
  | .rrE => [0xCB, 0x1B]
  | .rrH => [0xCB, 0x1C]
  | .rrL => [0xCB, 0x1D]
  | .rrAtHl => [0xCB, 0x1E]
  | .rrA => [0xCB, 0x1F]
  | .slaB => [0xCB, 0x20]
  | .slaC => [0xCB, 0x21]
  | .slaD => [0xCB, 0x22]
  | .slaE => [0xCB, 0x23]
  | .slaH => [0xCB, 0x24]
  | .slaL => [0xCB, 0x25]
  | .slaAtHl => [0xCB, 0x26]
  | .slaA => [0xCB, 0x27]
  | .sraB => [0xCB, 0x28]
  | .sraC => [0xCB, 0x29]
  | .sraD => [0xCB, 0x2A]
  | .sraE => [0xCB, 0x2B]
  | .sraH => [0xCB, 0x2C]
  | .sraL => [0xCB, 0x2D]
  | .sraAtHl => [0xCB, 0x2E]
  | .sraA => [0xCB, 0x2F]
  | .swapB => [0xCB, 0x30]
  | .swapC => [0xCB, 0x31]
  | .swapD => [0xCB, 0x32]
  | .swapE => [0xCB, 0x33]
  | .swapH => [0xCB, 0x34]
  | .swapL => [0xCB, 0x35]
  | .swapAtHl => [0xCB, 0x36]
  | .swapA => [0xCB, 0x37]
  | .srlB => [0xCB, 0x38]
  | .srlC => [0xCB, 0x39]
  | .srlD => [0xCB, 0x3A]
  | .srlE => [0xCB, 0x3B]
  | .srlH => [0xCB, 0x3C]
  | .srlL => [0xCB, 0x3D]
  | .srlAtHl => [0xCB, 0x3E]
  | .srlA => [0xCB, 0x3F]
  | .bit0B => [0xCB, 0x40]
  | .bit0C => [0xCB, 0x41]
  | .bit0D => [0xCB, 0x42]
  | .bit0E => [0xCB, 0x43]
  | .bit0H => [0xCB, 0x44]
  | .bit0L => [0xCB, 0x45]
  | .bit0AtHl => [0xCB, 0x46]
  | .bit0A => [0xCB, 0x47]
  | .bit1B => [0xCB, 0x48]
  | .bit1C => [0xCB, 0x49]
  | .bit1D => [0xCB, 0x4A]
  | .bit1E => [0xCB, 0x4B]
  | .bit1H => [0xCB, 0x4C]
  | .bit1L => [0xCB, 0x4D]
  | .bit1AtHl => [0xCB, 0x4E]
  | .bit1A => [0xCB, 0x4F]
  | .bit2B => [0xCB, 0x50]
  | .bit2C => [0xCB, 0x51]
  | .bit2D => [0xCB, 0x52]
  | .bit2E => [0xCB, 0x53]
  | .bit2H => [0xCB, 0x54]
  | .bit2L => [0xCB, 0x55]
  | .bit2AtHl => [0xCB, 0x56]
  | .bit2A => [0xCB, 0x57]
  | .bit3B => [0xCB, 0x58]
  | .bit3C => [0xCB, 0x59]
  | .bit3D => [0xCB, 0x5A]
  | .bit3E => [0xCB, 0x5B]
  | .bit3H => [0xCB, 0x5C]
  | .bit3L => [0xCB, 0x5D]
  | .bit3AtHl => [0xCB, 0x5E]
  | .bit3A => [0xCB, 0x5F]
  | .bit4B => [0xCB, 0x60]
  | .bit4C => [0xCB, 0x61]
  | .bit4D => [0xCB, 0x62]
  | .bit4E => [0xCB, 0x63]
  | .bit4H => [0xCB, 0x64]
  | .bit4L => [0xCB, 0x65]
  | .bit4AtHl => [0xCB, 0x66]
  | .bit4A => [0xCB, 0x67]
  | .bit5B => [0xCB, 0x68]
  | .bit5C => [0xCB, 0x69]
  | .bit5D => [0xCB, 0x6A]
  | .bit5E => [0xCB, 0x6B]
  | .bit5H => [0xCB, 0x6C]
  | .bit5L => [0xCB, 0x6D]
  | .bit5AtHl => [0xCB, 0x6E]
  | .bit5A => [0xCB, 0x6F]
  | .bit6B => [0xCB, 0x70]
  | .bit6C => [0xCB, 0x71]
  | .bit6D => [0xCB, 0x72]
  | .bit6E => [0xCB, 0x73]
  | .bit6H => [0xCB, 0x74]
  | .bit6L => [0xCB, 0x75]
  | .bit6AtHl => [0xCB, 0x76]
  | .bit6A => [0xCB, 0x77]
  | .bit7B => [0xCB, 0x78]
  | .bit7C => [0xCB, 0x79]
  | .bit7D => [0xCB, 0x7A]
  | .bit7E => [0xCB, 0x7B]
  | .bit7H => [0xCB, 0x7C]
  | .bit7L => [0xCB, 0x7D]
  | .bit7AtHl => [0xCB, 0x7E]
  | .bit7A => [0xCB, 0x7F]
  | .res0B => [0xCB, 0x80]
  | .res0C => [0xCB, 0x81]
  | .res0D => [0xCB, 0x82]
  | .res0E => [0xCB, 0x83]
  | .res0H => [0xCB, 0x84]
  | .res0L => [0xCB, 0x85]
  | .res0AtHl => [0xCB, 0x86]
  | .res0A => [0xCB, 0x87]
  | .res1B => [0xCB, 0x88]
  | .res1C => [0xCB, 0x89]
  | .res1D => [0xCB, 0x8A]
  | .res1E => [0xCB, 0x8B]
  | .res1H => [0xCB, 0x8C]
  | .res1L => [0xCB, 0x8D]
  | .res1AtHl => [0xCB, 0x8E]
  | .res1A => [0xCB, 0x8F]
  | .res2B => [0xCB, 0x90]
  | .res2C => [0xCB, 0x91]
  | .res2D => [0xCB, 0x92]
  | .res2E => [0xCB, 0x93]
  | .res2H => [0xCB, 0x94]
  | .res2L => [0xCB, 0x95]
  | .res2AtHl => [0xCB, 0x96]
  | .res2A => [0xCB, 0x97]
  | .res3B => [0xCB, 0x98]
  | .res3C => [0xCB, 0x99]
  | .res3D => [0xCB, 0x9A]
  | .res3E => [0xCB, 0x9B]
  | .res3H => [0xCB, 0x9C]
  | .res3L => [0xCB, 0x9D]
  | .res3AtHl => [0xCB, 0x9E]
  | .res3A => [0xCB, 0x9F]
  | .res4B => [0xCB, 0xA0]
  | .res4C => [0xCB, 0xA1]
  | .res4D => [0xCB, 0xA2]
  | .res4E => [0xCB, 0xA3]
  | .res4H => [0xCB, 0xA4]
  | .res4L => [0xCB, 0xA5]
  | .res4AtHl => [0xCB, 0xA6]
  | .res4A => [0xCB, 0xA7]
  | .res5B => [0xCB, 0xA8]
  | .res5C => [0xCB, 0xA9]
  | .res5D => [0xCB, 0xAA]
  | .res5E => [0xCB, 0xAB]
  | .res5H => [0xCB, 0xAC]
  | .res5L => [0xCB, 0xAD]
  | .res5AtHl => [0xCB, 0xAE]
  | .res5A => [0xCB, 0xAF]
  | .res6B => [0xCB, 0xB0]
  | .res6C => [0xCB, 0xB1]
  | .res6D => [0xCB, 0xB2]
  | .res6E => [0xCB, 0xB3]
  | .res6H => [0xCB, 0xB4]
  | .res6L => [0xCB, 0xB5]
  | .res6AtHl => [0xCB, 0xB6]
  | .res6A => [0xCB, 0xB7]
  | .res7B => [0xCB, 0xB8]
  | .res7C => [0xCB, 0xB9]
  | .res7D => [0xCB, 0xBA]
  | .res7E => [0xCB, 0xBB]
  | .res7H => [0xCB, 0xBC]
  | .res7L => [0xCB, 0xBD]
  | .res7AtHl => [0xCB, 0xBE]
  | .res7A => [0xCB, 0xBF]
  | .set0B => [0xCB, 0xC0]
  | .set0C => [0xCB, 0xC1]
  | .set0D => [0xCB, 0xC2]
  | .set0E => [0xCB, 0xC3]
  | .set0H => [0xCB, 0xC4]
  | .set0L => [0xCB, 0xC5]
  | .set0AtHl => [0xCB, 0xC6]
  | .set0A => [0xCB, 0xC7]
  | .set1B => [0xCB, 0xC8]
  | .set1C => [0xCB, 0xC9]
  | .set1D => [0xCB, 0xCA]
  | .set1E => [0xCB, 0xCB]
  | .set1H => [0xCB, 0xCC]
  | .set1L => [0xCB, 0xCD]
  | .set1AtHl => [0xCB, 0xCE]
  | .set1A => [0xCB, 0xCF]
  | .set2B => [0xCB, 0xD0]
  | .set2C => [0xCB, 0xD1]
  | .set2D => [0xCB, 0xD2]
  | .set2E => [0xCB, 0xD3]
  | .set2H => [0xCB, 0xD4]
  | .set2L => [0xCB, 0xD5]
  | .set2AtHl => [0xCB, 0xD6]
  | .set2A => [0xCB, 0xD7]
  | .set3B => [0xCB, 0xD8]
  | .set3C => [0xCB, 0xD9]
  | .set3D => [0xCB, 0xDA]
  | .set3E => [0xCB, 0xDB]
  | .set3H => [0xCB, 0xDC]
  | .set3L => [0xCB, 0xDD]
  | .set3AtHl => [0xCB, 0xDE]
  | .set3A => [0xCB, 0xDF]
  | .set4B => [0xCB, 0xE0]
  | .set4C => [0xCB, 0xE1]
  | .set4D => [0xCB, 0xE2]
  | .set4E => [0xCB, 0xE3]
  | .set4H => [0xCB, 0xE4]
  | .set4L => [0xCB, 0xE5]
  | .set4AtHl => [0xCB, 0xE6]
  | .set4A => [0xCB, 0xE7]
  | .set5B => [0xCB, 0xE8]
  | .set5C => [0xCB, 0xE9]
  | .set5D => [0xCB, 0xEA]
  | .set5E => [0xCB, 0xEB]
  | .set5H => [0xCB, 0xEC]
  | .set5L => [0xCB, 0xED]
  | .set5AtHl => [0xCB, 0xEE]
  | .set5A => [0xCB, 0xEF]
  | .set6B => [0xCB, 0xF0]
  | .set6C => [0xCB, 0xF1]
  | .set6D => [0xCB, 0xF2]
  | .set6E => [0xCB, 0xF3]
  | .set6H => [0xCB, 0xF4]
  | .set6L => [0xCB, 0xF5]
  | .set6AtHl => [0xCB, 0xF6]
  | .set6A => [0xCB, 0xF7]
  | .set7B => [0xCB, 0xF8]
  | .set7C => [0xCB, 0xF9]
  | .set7D => [0xCB, 0xFA]
  | .set7E => [0xCB, 0xFB]
  | .set7H => [0xCB, 0xFC]
  | .set7L => [0xCB, 0xFD]
  | .set7AtHl => [0xCB, 0xFE]
  | .set7A => [0xCB, 0xFF]

/-! ## The opcode table's numbering -/

/-- The bytes of a word as spec/opcode_table.json numbers it (log 13): an extended row has the prefix
in bits 15-8 and the extended byte in bits 7-0; otherwise the first byte is bits 7-0. Bytes above
`nbits` are zero; the one-byte row of the prefix is the prefix alone. -/
def tableBytes (nbits w : Nat) : List Byte :=
  let b0 := BitVec.ofNat 8 w
  let b1 := BitVec.ofNat 8 (w / 0x100)
  let b2 := BitVec.ofNat 8 (w / 0x10000)
  if nbits ≤ 8 then (if b0 = 0xCB then [b0] else [b0, 0, 0])
  else if nbits ≤ 16 then (if b1 = 0xCB then [b1, b0, 0] else [b0, b1, 0])
  else [b0, b1, b2]

/-- The instruction the decoder reads from a word numbered as spec/opcode_table.json numbers it. -/
def decodeTableWord (nbits w : Nat) : Option Instr :=
  match decode (tableBytes nbits w) with
  | .ok (i, _) => some i
  | .error _ => none

end Sys2Proof
end

