-- ==== Sys2Proof/Machine/State.lean ====
section
/-! DEFINITION. The state of pyGB CORE as plain data (10_state.md): CPU Core, Bus, cartridge, the
references to the lent devices, and the model's own counters of free values; the reasons a step
stops; the state after reset (10_state.md R45, 70_reset_and_hazards.md R450). -/

namespace Sys2Proof.Machine

/-- Bytes by key, keys strictly rising; what an unlisted key holds is said in Memory.lean. -/
abbrev Memory := List Host.Cell

/-- The four condition bits of F; bits 3-0 of F have no storage and read 0 (10_state.md R22). -/
structure Flags where
  z : Bool
  n : Bool
  h : Bool
  c : Bool
  deriving DecidableEq, Repr

/-- The names of the four flags (10_state.md R22). -/
inductive FlagName where
  | z
  | n
  | h
  | c
  deriving DecidableEq, Repr

/-- What carries a written bit: a general register, SP or a flag (10_state.md R45). -/
inductive RegName where
  | reg (r : Reg)
  | sp
  | flag (f : FlagName)
  deriving DecidableEq, Repr

/-- The written bits: set by the first write since reset, read under `RESET_REGS` = NOVALUE only
(10_state.md R45: model state, not hardware state). -/
structure Written where
  a : Bool
  b : Bool
  c : Bool
  d : Bool
  e : Bool
  h : Bool
  l : Bool
  sp : Bool
  zf : Bool
  nf : Bool
  hf : Bool
  cf : Bool
  deriving DecidableEq, Repr

/-- Nothing is written (10_state.md R45: false at reset). -/
def Written.nothing : Written :=
  ⟨false, false, false, false, false, false, false, false, false, false, false, false⟩

/-- Where an invalid address was refused (60_exceptions.md R400). -/
inductive Site where
  | bus
  | cartridge
  deriving DecidableEq, Repr

/-- The kind of access (60_exceptions.md R400). -/
inductive Access where
  | read
  | write
  deriving DecidableEq, Repr

/-- Why a cartridge could not be constructed (20_memory.md R80). -/
inductive ConstructionFault where
  | shortBuffer (len : Nat)
  | unsupportedType (id : Byte)
  deriving DecidableEq, Repr

/-- A fault record: the kind with its info (60_exceptions.md R400, R405). `unwrittenRead` is raised
under `RESET_REGS` = NOVALUE only (R418). -/
inductive FaultRecord where
  | invalidAddress (site : Site) (access : Access) (address : Nat)
  | illegalInstruction (opcode : Byte) (address : Word)
  | constructionError (why : ConstructionFault)
  | registrationConflict (id : Byte)
  | unwrittenRead (name : RegName) (address : Word)
  deriving DecidableEq, Repr

/-- The type-1 bank controller with its ROM array and its four RAM banks (10_state.md R35 to R41).
`rom` is keyed by slot * 0x4000 + offset and lists no zero byte, `ram` by bank * 0x2000 + offset.
`serial` says which construction it is: the model's own field, read by the free values of its RAM
only (log 4). -/
structure Type1 where
  rom : Memory
  ram : Memory
  ramEnable : BitVec 4
  romSelect : BitVec 5
  banksetSelect : BitVec 2
  modeSelect : BitVec 1
  serial : Nat
  deriving DecidableEq, Repr

/-- What the cartridge slot holds (10_state.md R33, R42). -/
inductive Cartridge where
  | dummy
  | type1 (t : Type1)
  deriving DecidableEq, Repr

/-- What the host says of a device it lends (00_scope.md R8 `EXT_DEV`, 20_memory.md R97): the bytes
it promises by offset, and whether the device behaves as RAM (a write replaces the promised byte).
A byte that is not promised reads as a free value (log 5). -/
structure LentDevice where
  promised : Memory
  keepsWrites : Bool
  deriving DecidableEq, Repr

/-- The four references the Bus holds to lent devices (10_state.md R34). -/
structure Ports where
  bootOverlay : LentDevice
  videoRam : LentDevice
  oam : LentDevice
  io : LentDevice
  deriving DecidableEq, Repr

/-- One write delivered to a lent device's port (20_memory.md R95, R97). -/
structure LentWrite where
  device : Lent
  offset : Nat
  value : Byte
  deriving DecidableEq, Repr

/-- The state of the block (10_state.md); INVENTORY.md lists each field with its rule. -/
structure State where
  /-- General registers (R20). -/
  a : Byte
  b : Byte
  c : Byte
  d : Byte
  e : Byte
  h : Byte
  l : Byte
  /-- F (R22). -/
  flags : Flags
  /-- SP (R25). -/
  sp : Word
  /-- The written bits of A to L, SP and the flags (R45). -/
  written : Written
  /-- pc (R26). -/
  pc : Word
  /-- `stopped` (R27). -/
  stopped : Bool
  /-- `halted` (R27). -/
  halted : Bool
  /-- `interrupts_enabled`, IME (R27). -/
  ime : Bool
  /-- The fault latch (R28). -/
  fault : Option FaultRecord
  /-- `boot_active` (R30). -/
  bootActive : Bool
  /-- Work RAM by offset (R31). -/
  workRam : Memory
  /-- High RAM by offset (R32). -/
  highRam : Memory
  /-- The cartridge slot (R33). -/
  cart : Cartridge
  /-- The lent devices (R34). -/
  ports : Ports
  /-- Writes delivered to lent devices, oldest first (20_memory.md R97). -/
  events : List LentWrite
  /-- The number of the next free value of a lent device: the model's own (log 5). -/
  draws : Nat
  /-- Which reset the free values of work RAM and high RAM belong to: the model's own (log 3). -/
  epoch : Nat
  /-- The parameters, fixed by the launch state (70_reset_and_hazards.md R453). -/
  config : Config
  deriving DecidableEq, Repr

/-- Why a step stops with a fault. -/
inductive Fault where
  /-- Raised by `step` when a fault is already latched: the step reports the record and changes
  nothing (60_exceptions.md R405, R406). Safe: the machine does no further work either. -/
  | latched (record : FaultRecord)
  deriving DecidableEq, Repr

/-- Why a step has no meaning. -/
inductive Refusal where
  /-- Raised by `exec` for an instruction without a meaning yet (none is left). Safe. -/
  | notModelled (mnemonic : String)
  /-- Raised by a Bus access of 0xE000-0xEFFF with `WRAM_ECHO_MODE` = SOURCE_ARITH: the spec gives
  it no meaning and asks the model to refuse (20_memory.md R67, 60_exceptions.md R419 a). Safe. -/
  | echoWindow (address : Word)
  deriving DecidableEq, Repr

/-- The answer of a meaning or of a shared operation: a result, a fault or a refusal. -/
abbrev Res (α : Type) := Host.Outcome α Fault Refusal

/-- A lent device about which the host promises nothing. -/
def LentDevice.unknown : LentDevice := ⟨[], false⟩

/-- Four lent devices about which the host promises nothing (20_memory.md R97). -/
def Ports.unknown : Ports := ⟨.unknown, .unknown, .unknown, .unknown⟩

/-- The state after reset (10_state.md R45, 70_reset_and_hazards.md R450). The registers, flags and
SP are the model's choice (log 1), as are `RESET_REGS` (log 2) and the counters (log 3, log 5). -/
def State.reset : State where
  a := 0
  b := 0
  c := 0
  d := 0
  e := 0
  h := 0
  l := 0
  flags := ⟨false, false, false, false⟩
  sp := 0
  written := .nothing
  pc := 0x0000
  stopped := false
  halted := false
  ime := false
  fault := none
  bootActive := true
  workRam := []
  highRam := []
  cart := .dummy
  ports := .unknown
  events := []
  draws := 0
  epoch := 0
  config := .launch

end Sys2Proof.Machine
end

