-- ==== Sys2Proof/Machine/Memory.lean ====
section
/-! DEFINITION. The cells of a memory: one canonical form (keys strictly rising, none listed with
what an unlisted key holds anyway), reading and writing one byte. -/

namespace Sys2Proof.Machine

/-- What an unlisted byte of RAM holds: no value of its own, so that reading it gives a free value
(10_state.md R45: the initial contents are a draw; log 3, log 4, log 5). -/
def unlistedRam : Option Byte := none

/-- What an unlisted byte of the ROM array holds: zero-filled padding (10_state.md R40). -/
def unlistedRom : Option Byte := some 0x00

/-- The byte listed at a key, if any. -/
def Memory.read : Memory → Nat → Option Byte
  | [], _ => none
  | (k, v) :: m, a => if a = k then some v else Memory.read m a

/-- List `v` at key `a`, in place of what was listed there. -/
def Memory.write : Memory → Nat → Byte → Memory
  | [], a, v => [(a, v)]
  | (k, w) :: m, a, v =>
    if a < k then (a, v) :: (k, w) :: m
    else if a = k then (a, v) :: m
    else (k, w) :: Memory.write m a v

/-- Unlist key `a`. -/
def Memory.erase : Memory → Nat → Memory
  | [], _ => []
  | (k, w) :: m, a => if a = k then m else (k, w) :: Memory.erase m a

/-- Store `v` at key `a` of a memory whose unlisted bytes hold `unlisted`, in canonical form. -/
def Memory.store (unlisted : Option Byte) (m : Memory) (a : Nat) (v : Byte) : Memory :=
  if some v = unlisted then m.erase a else m.write a v

/-- Every key is at least `low`, and the keys rise strictly. -/
def Memory.sortedFrom : Nat → Memory → Bool
  | _, [] => true
  | low, (k, _) :: m => decide (low ≤ k) && Memory.sortedFrom (k + 1) m

/-- The canonical form of a memory of `size` bytes whose unlisted bytes hold `unlisted`: keys
strictly rising and below `size`, and no byte listed that holds `unlisted` anyway. -/
def Memory.wf (size : Nat) (unlisted : Option Byte) (m : Memory) : Bool :=
  Memory.sortedFrom 0 m && m.all fun cell => decide (cell.1 < size) && decide (some cell.2 ≠ unlisted)

end Sys2Proof.Machine
end

