-- ==== Sys2Proof/Machine/Cartridge.lean ====
section
/-! DEFINITION. The cartridge: the registry, construction, the Dummy cartridge and the type-1 bank
controller's read and write contracts (20_memory.md R76 to R94). -/

namespace Sys2Proof.Machine

/-- Bytes of a ROM slot and of a RAM bank (00_scope.md R7). -/
def romSlotSize : Nat := 0x4000
def ramBankSize : Nat := 0x2000
/-- Slots of the ROM bank array and RAM banks (00_scope.md R7). -/
def romSlots : Nat := 128
def ramBanks : Nat := 4

/-- The key of a byte of a slot: slots 32, 64 and 96 are aliases of slot 0 (20_memory.md R81). -/
def romKey (slot offset : Nat) : Nat :=
  (if slot = 32 ∨ slot = 64 ∨ slot = 96 then 0 else slot) * romSlotSize + offset

/-- The byte of a slot at an offset (10_state.md R40). -/
def Type1.slotByte (t : Type1) (slot offset : Nat) : Byte :=
  match t.rom.read (romKey slot offset) with
  | some v => v
  | none => 0x00

/-- The slot that 0x4000-0x7FFF reaches (20_memory.md R85). -/
def Type1.switchSlot (t : Type1) : Nat :=
  t.romSelect.toNat ||| (if t.modeSelect = 0 then t.banksetSelect.toNat <<< 5 else 0)

/-- `RamBank()` (20_memory.md R92). -/
def Type1.ramBank (t : Type1) : Nat :=
  if t.modeSelect = 1 then t.banksetSelect.toNat else 0

/-- External RAM is enabled exactly when `ram_enable` is 0xA (10_state.md R35). -/
def Type1.ramEnabled (t : Type1) : Bool := t.ramEnable == 0xA

/-- The key of a byte of a RAM bank. -/
def ramKey (bank offset : Nat) : Nat := bank * ramBankSize + offset

/-- The byte of a RAM bank at an offset: what was last written there, else its initial draw
(20_memory.md R76, 10_state.md R41). -/
def Type1.bankByte (t : Type1) (bank offset : Nat) : Byte :=
  match t.ram.read (ramKey bank offset) with
  | some v => v
  | none => Config.cartRamInit t.serial bank offset

/-- Type-1 read at a cartridge-local address (20_memory.md R84 to R86). -/
def Type1.read (t : Type1) (offset : Nat) : Byte :=
  if offset < 0x4000 then t.slotByte 0 offset
  else if offset < 0x8000 then t.slotByte t.switchSlot (offset - 0x4000)
  else if t.ramEnabled then t.bankByte t.ramBank (offset - 0x8000)
  else 0x00

/-- `rom_select` after a write: five bits, zero clamped to one (20_memory.md R88). -/
def clampRomSelect (v : Byte) : BitVec 5 :=
  let t := v.extractLsb' 0 5
  if t = 0 then 1 else t

/-- Type-1 write at a cartridge-local address (20_memory.md R87 to R91). -/
def Type1.write (t : Type1) (offset : Nat) (v : Byte) : Type1 :=
  if offset < 0x2000 then { t with ramEnable := v.extractLsb' 0 4 }
  else if offset < 0x4000 then { t with romSelect := clampRomSelect v }
  else if offset < 0x6000 then { t with banksetSelect := v.extractLsb' 0 2 }
  else if offset < 0x8000 then { t with modeSelect := v.extractLsb' 0 1 }
  else if t.ramEnabled then
    { t with ram := t.ram.store unlistedRam (ramKey t.ramBank (offset - 0x8000)) v }
  else t

/-- A read of the cartridge: the Dummy answers 0x00 everywhere (20_memory.md R82). -/
def Cartridge.read : Cartridge → Nat → Byte
  | .dummy, _ => 0x00
  | .type1 t, offset => t.read offset

/-- A write to the cartridge: the Dummy discards it (20_memory.md R82). -/
def Cartridge.write : Cartridge → Nat → Byte → Cartridge
  | .dummy, _, _ => .dummy
  | .type1 t, offset, v => .type1 (t.write offset v)

/-- The local addresses a cartridge accepts: the type-1 controller accepts 0x0000-0x9FFF only
(20_memory.md R83). -/
def Cartridge.accepts : Cartridge → Nat → Bool
  | .dummy, _ => true
  | .type1 _, offset => decide (offset < 0xA000)

/-- A read at any local address: outside the accepted ones it fails with InvalidAddress
(20_memory.md R83, 60_exceptions.md R401, log 15). -/
def Cartridge.readChecked (c : Cartridge) (offset : Nat) : Except FaultRecord Byte :=
  if c.accepts offset then .ok (c.read offset)
  else .error (.invalidAddress .cartridge .read offset)

/-- A write at any local address, as `readChecked` (20_memory.md R83, log 15). -/
def Cartridge.writeChecked (c : Cartridge) (offset : Nat) (v : Byte) :
    Except FaultRecord Cartridge :=
  if c.accepts offset then .ok (c.write offset v)
  else .error (.invalidAddress .cartridge .write offset)

/-- A key of the ROM array that no alias slot has: slots 32, 64 and 96 hold no data of their own
(10_state.md R40). -/
def ownRomKey (key : Nat) : Bool := decide (romKey (key / romSlotSize) (key % romSlotSize) = key)

/-- A cartridge is in form: its memories are canonical, its ROM array lists no alias slot and
`rom_select` is not zero (10_state.md R36, R40, R41). -/
def Cartridge.wf : Cartridge → Bool
  | .dummy => true
  | .type1 t =>
    Memory.wf (romSlots * romSlotSize) unlistedRom t.rom
      && t.rom.all (fun cell => ownRomKey cell.1)
      && Memory.wf (ramBanks * ramBankSize) unlistedRam t.ram
      && decide (t.romSelect ≠ 0)

/-! ## Registry and construction (20_memory.md R78 to R81) -/

/-- The constructors a registry can name: there is one concrete variant (00_scope.md R6 c). -/
inductive Variant where
  | type1
  deriving DecidableEq, Repr

/-- A claim of the registration table: a variant and the identifiers it services (R78). -/
structure Claim where
  variant : Variant
  ids : List Byte
  deriving DecidableEq, Repr

/-- Add one claim to a registry, refusing an identifier that another claim has (R78). -/
def register (v : Variant) (table : List (Byte × Variant)) :
    List Byte → Except FaultRecord (List (Byte × Variant))
  | [] => .ok []
  | id :: ids =>
    if table.any fun entry => entry.1 == id then .error (.registrationConflict id)
    else match register v table ids with
      | .ok added => .ok ((id, v) :: added)
      | .error r => .error r

/-- The registry of a table of claims, or RegistrationConflict when two claims have one identifier
(20_memory.md R78, 60_exceptions.md R404). -/
def buildRegistry : List Claim → Except FaultRecord (List (Byte × Variant))
  | [] => .ok []
  | claim :: claims =>
    match buildRegistry claims with
    | .error r => .error r
    | .ok table =>
      match register claim.variant table claim.ids with
      | .ok added => .ok (added ++ table)
      | .error r => .error r

/-- This block's table: every identifier of `TYPE1_IDS` maps to the type-1 constructor (R78). -/
def registryClaims (config : Config) : List Claim := [⟨.type1, config.type1Ids⟩]

/-- The variant that services an identifier (R78). -/
def lookupVariant (table : List (Byte × Variant)) (id : Byte) : Option Variant :=
  (table.find? fun entry => entry.1 == id).map Prod.snd

/-- The ROM array's cells of an image: the bytes of its chunks 0 to 127, less chunks 32, 64 and 96,
whose slots are aliases; a zero byte is not listed (20_memory.md R81). -/
def romOfImage (img : List Byte) : Memory :=
  img.zipIdx.filterMap fun (v, i) =>
    if i < romSlots * romSlotSize ∧ ownRomKey i = true ∧ v ≠ 0x00
    then some (i, v) else none

/-- Type-1 construction (20_memory.md R81); `serial` numbers the construction (log 4). -/
def constructType1 (serial : Nat) (img : List Byte) : Type1 where
  rom := romOfImage img
  ram := []
  ramEnable := 0x0
  romSelect := 0x01
  banksetSelect := 0
  modeSelect := 0
  serial := serial

/-- Construction, phases 1 and 2, with a given registry (20_memory.md R79, R80). -/
def constructWith (table : List (Byte × Variant)) (serial : Nat) (img : List Byte) :
    Except FaultRecord Cartridge :=
  match img with
  | [] => .ok .dummy
  | _ :: _ =>
    match img[0x147]? with
    | none => .error (.constructionError (.shortBuffer img.length))
    | some id =>
      match lookupVariant table id with
      | none => .error (.constructionError (.unsupportedType id))
      | some .type1 => .ok (.type1 (constructType1 serial img))

/-- `construct_cartridge(img)` under the parameters (70_reset_and_hazards.md R470). -/
def constructCartridge (config : Config) (serial : Nat) (img : List Byte) :
    Except FaultRecord Cartridge :=
  match buildRegistry (registryClaims config) with
  | .error r => .error r
  | .ok table => constructWith table serial img

end Sys2Proof.Machine
end

