-- ==== Sys2Proof/Machine/Bus.lean ====
section
/-! DEFINITION. The Bus's translation of an address to a device and a local offset
(20_memory.md R61 to R71). -/

namespace Sys2Proof.Machine

/-- A device behind the Bus. `noMeaning` stands for an access the spec gives no meaning
(20_memory.md R67, `WRAM_ECHO_MODE` = SOURCE_ARITH): the access is refused. -/
inductive Device where
  | lent (l : Lent)
  | cartridge
  | workRam
  | dummy
  | highRam
  | noMeaning
  deriving DecidableEq, Repr

/-- The echo of work RAM, 0xE000-0xFDFF (20_memory.md R67). -/
def translateEcho : EchoMode → Nat → Device × Nat
  | .trueMirror, n => (.workRam, n - 0xE000)
  | .sourceArith, n => if n < 0xF000 then (.noMeaning, 0) else (.workRam, n - 0xF000)

/-- `translate(address)`: the table of 20_memory.md R61. -/
def translateAddress (echo : EchoMode) (bootActive : Bool) (address : Word) : Device × Nat :=
  let n := address.toNat
  if n < 0x0100 then (if bootActive then (.lent .bootOverlay, n) else (.cartridge, n))
  else if n < 0x8000 then (.cartridge, n)
  else if n < 0xA000 then (.lent .videoRam, n - 0x8000)
  else if n < 0xC000 then (.cartridge, n - 0xA000 + 0x8000)
  else if n < 0xE000 then (.workRam, n - 0xC000)
  else if n < 0xFE00 then translateEcho echo n
  else if n < 0xFEA0 then (.lent .oam, n - 0xFE00)
  else if n < 0xFF00 then (.dummy, 0)
  else if n < 0xFF80 then (.lent .io, n - 0xFF00)
  else (.highRam, n - 0xFF80)

/-- The bytes of the window a lent device answers (20_memory.md R96). -/
def lentSize : Lent → Nat
  | .bootOverlay => 0x100
  | .videoRam => 0x2000
  | .oam => 0xA0
  | .io => 0x80

/-- Bytes of work RAM and of high RAM (00_scope.md R7). -/
def workRamSize : Nat := 0x2000
def highRamSize : Nat := 0x80

end Sys2Proof.Machine
end

