-- ==== Sys2Proof/Machine/Ops.lean ====
section
/-! DEFINITION. The named operations over registers, flags and memory: sequencing of results,
register and Bus access, the stack, immediate bytes, and raising a fault. -/

namespace Sys2Proof.Machine

/-- Run `f` on the result of `o`, if there is one (00_scope.md R15: pseudocode runs top to bottom). -/
def andThen {α β : Type} (o : Res α) (f : α → Res β) : Res β :=
  match o with
  | .next x => f x
  | .fault r => .fault r
  | .refused r => .refused r

/-! ## Written bits (10_state.md R45) -/

/-- The written bit of a register or flag. -/
def Written.get (w : Written) : RegName → Bool
  | .reg .a => w.a
  | .reg .b => w.b
  | .reg .c => w.c
  | .reg .d => w.d
  | .reg .e => w.e
  | .reg .h => w.h
  | .reg .l => w.l
  | .sp => w.sp
  | .flag .z => w.zf
  | .flag .n => w.nf
  | .flag .h => w.hf
  | .flag .c => w.cf

/-- A write sets the bit. -/
def Written.mark (w : Written) : RegName → Written
  | .reg .a => { w with a := true }
  | .reg .b => { w with b := true }
  | .reg .c => { w with c := true }
  | .reg .d => { w with d := true }
  | .reg .e => { w with e := true }
  | .reg .h => { w with h := true }
  | .reg .l => { w with l := true }
  | .sp => { w with sp := true }
  | .flag .z => { w with zf := true }
  | .flag .n => { w with nf := true }
  | .flag .h => { w with hf := true }
  | .flag .c => { w with cf := true }

/-! ## Registers (00_scope.md R11) -/

/-- `x[r]`. -/
def State.getReg (s : State) : Reg → Byte
  | .b => s.b
  | .c => s.c
  | .d => s.d
  | .e => s.e
  | .h => s.h
  | .l => s.l
  | .a => s.a

/-- `x[r] <- v`. -/
def State.setReg (s : State) : Reg → Byte → State
  | .b, v => { s with b := v, written := s.written.mark (.reg .b) }
  | .c, v => { s with c := v, written := s.written.mark (.reg .c) }
  | .d, v => { s with d := v, written := s.written.mark (.reg .d) }
  | .e, v => { s with e := v, written := s.written.mark (.reg .e) }
  | .h, v => { s with h := v, written := s.written.mark (.reg .h) }
  | .l, v => { s with l := v, written := s.written.mark (.reg .l) }
  | .a, v => { s with a := v, written := s.written.mark (.reg .a) }


/-- `x[BC]`, `x[DE]`, `x[HL]` (00_scope.md R11). -/
def State.bc (s : State) : Word := wordOf s.b s.c
def State.de (s : State) : Word := wordOf s.d s.e
def State.hl (s : State) : Word := wordOf s.h s.l

/-- `x[BC] <- v`, `x[DE] <- v`, `x[HL] <- v`: the high byte to the first register. -/
def State.setBc (s : State) (v : Word) : State :=
  { s with
    b := highByte v, c := lowByte v
    written := (s.written.mark (.reg .b)).mark (.reg .c) }
def State.setDe (s : State) (v : Word) : State :=
  { s with
    d := highByte v, e := lowByte v
    written := (s.written.mark (.reg .d)).mark (.reg .e) }
def State.setHl (s : State) (v : Word) : State :=
  { s with
    h := highByte v, l := lowByte v
    written := (s.written.mark (.reg .h)).mark (.reg .l) }

/-- `x[SP] <- v` and `pc <- v`. -/
def State.setSp (s : State) (v : Word) : State := { s with sp := v, written := s.written.mark .sp }
def State.setPc (s : State) (v : Word) : State := { s with pc := v }

/-- Which flags an operation writes, and with what: `none` is `-` in the table of 10_state.md R23. -/
structure FlagWrites where
  z : Option Bool
  n : Option Bool
  h : Option Bool
  c : Option Bool
  deriving DecidableEq, Repr

/-- The flags after those writes. -/
def FlagWrites.over (w : FlagWrites) (f : Flags) : Flags :=
  ⟨w.z.getD f.z, w.n.getD f.n, w.h.getD f.h, w.c.getD f.c⟩

/-- The written bits after those writes. -/
def FlagWrites.marks (w : FlagWrites) (m : Written) : Written :=
  { m with
    zf := m.zf || w.z.isSome, nf := m.nf || w.n.isSome, hf := m.hf || w.h.isSome,
    cf := m.cf || w.c.isSome }

/-- Some flags written, the others kept. -/
def State.writeFlags (s : State) (w : FlagWrites) : State :=
  { s with flags := w.over s.flags, written := w.marks s.written }

/-- All four flags written. -/
def State.setFlags (s : State) (f : Flags) : State :=
  s.writeFlags ⟨some f.z, some f.n, some f.h, some f.c⟩

/-- The execution-state flags (10_state.md R27). -/
def State.setStopped (s : State) : State := { s with stopped := true }
def State.setHalted (s : State) : State := { s with halted := true }
def State.setIme (s : State) (v : Bool) : State := { s with ime := v }

/-! ## Faults -/

/-- Taking a fault: the record goes to the latch, and nothing built so far is rolled back
(60_exceptions.md R405, R407). There is no vector, no saved register and no return from a fault
(R409). -/
def State.raise (s : State) (record : FaultRecord) : State := { s with fault := some record }

/-- The numeric code of a fault record (60_exceptions.md R400). -/
def FaultRecord.code : FaultRecord → Nat
  | .invalidAddress _ _ _ => 1
  | .illegalInstruction _ _ => 2
  | .constructionError _ => 3
  | .registrationConflict _ => 4
  | .unwrittenRead _ _ => 5

/-- The records a step may latch (60_exceptions.md R405). -/
def FaultRecord.latchable : FaultRecord → Bool
  | .invalidAddress _ _ _ => true
  | .illegalInstruction _ _ => true
  | .unwrittenRead _ _ => true
  | .constructionError _ => false
  | .registrationConflict _ => false

/-- `pc0`, the address of the opcode byte, seen after `len` bytes of the instruction have been
fetched: the opcode byte advances pc unless the CPU is halted (40_step_and_system.md R201, R203). -/
def State.opcodeAddress (s : State) (len : Nat) : Word :=
  if s.halted then s.pc - BitVec.ofNat 16 (len - 1) else s.pc - BitVec.ofNat 16 len

/-- IllegalInstruction for an instruction of which `len` bytes have been fetched: pc is left where
the opcode fetch left it and the record is latched (60_exceptions.md R402, R407; log 11). -/
def State.raiseIllegal (s : State) (opcode : Byte) (len : Nat) : State :=
  let pc0 := s.opcodeAddress len
  (s.setPc (if s.halted then pc0 else pc0 + 1)).raise (.illegalInstruction opcode pc0)

/-- The first of these, in the order they are read, whose read is the fault UnwrittenRead; none under
`RESET_REGS` = DRAW (60_exceptions.md R408, R418). -/
def State.firstUnwritten (s : State) (names : List RegName) : Option RegName :=
  match s.config.resetRegs with
  | .draw => none
  | .noValue => names.find? fun n => !s.written.get n

/-- UnwrittenRead for an instruction of which `len` bytes have been fetched: the record is latched and
what the instruction has done so far stays (60_exceptions.md R407, R418). -/
def State.raiseUnwritten (s : State) (name : RegName) (len : Nat) : State :=
  s.raise (.unwrittenRead name (s.opcodeAddress len))

/-- Read these registers and flags, in this order, then go on; the first unwritten one ends the
instruction (60_exceptions.md R408, R418; the order within a line of pseudocode is log 21). -/
def reading (names : List RegName) (len : Nat) (s : State) (k : Res State) : Res State :=
  match s.firstUnwritten names with
  | some n => .next (s.raiseUnwritten n len)
  | none => k

/-! ## Devices -/

/-- The reference to a lent device. -/
def Ports.get (p : Ports) : Lent → LentDevice
  | .bootOverlay => p.bootOverlay
  | .videoRam => p.videoRam
  | .oam => p.oam
  | .io => p.io

/-- Replace the reference to a lent device. -/
def Ports.set (p : Ports) : Lent → LentDevice → Ports
  | .bootOverlay, d => { p with bootOverlay := d }
  | .videoRam, d => { p with videoRam := d }
  | .oam, d => { p with oam := d }
  | .io, d => { p with io := d }

/-- What a lent device's port answers: the promised byte, else a free value (20_memory.md R97). -/
def State.lentByte (s : State) (l : Lent) (offset : Nat) : Byte :=
  match (s.ports.get l).promised.read offset with
  | some v => v
  | none => Config.lentByte s.draws l offset

/-- A write delivered to a lent device: recorded for the host, and kept by a device that behaves
as RAM (20_memory.md R95, R97). -/
def State.lentWrite (s : State) (l : Lent) (offset : Nat) (v : Byte) : State :=
  let dev := s.ports.get l
  let kept : LentDevice :=
    if dev.keepsWrites then { dev with promised := dev.promised.store unlistedRam offset v } else dev
  { s with ports := s.ports.set l kept, events := s.events ++ [⟨l, offset, v⟩] }

/-- The byte of work RAM at an offset: what was last written, else its initial draw (R76, R45). -/
def State.workRamByte (s : State) (offset : Nat) : Byte :=
  match s.workRam.read offset with
  | some v => v
  | none => Config.workRamInit s.epoch offset

/-- The byte of high RAM at an offset: what was last written, else its initial draw (R76, R45). -/
def State.highRamByte (s : State) (offset : Nat) : Byte :=
  match s.highRam.read offset with
  | some v => v
  | none => Config.highRamInit s.epoch offset

/-- `dev.read(off)` (20_memory.md R73, R76). An access of `noMeaning` never gets here: it is refused. -/
def State.deviceByte (s : State) : Device → Nat → Byte
  | .lent l, offset => s.lentByte l offset
  | .cartridge, offset => s.cart.read offset
  | .workRam, offset => s.workRamByte offset
  | .dummy, _ => 0x00
  | .highRam, offset => s.highRamByte offset
  | .noMeaning, _ => 0x00

/-- What a read of a device changes: a lent device's next answer is another free value
(20_memory.md R97); every other read changes nothing (R102). -/
def State.afterDeviceRead (s : State) : Device → State
  | .lent _ => { s with draws := s.draws + 1 }
  | .cartridge => s
  | .workRam => s
  | .dummy => s
  | .highRam => s
  | .noMeaning => s

/-- `dev.write(off, v)` (20_memory.md R74, R76). -/
def State.deviceWrite (s : State) : Device → Nat → Byte → State
  | .lent l, offset, v => s.lentWrite l offset v
  | .cartridge, offset, v => { s with cart := s.cart.write offset v }
  | .workRam, offset, v => { s with workRam := s.workRam.store unlistedRam offset v }
  | .dummy, _, _ => s
  | .highRam, offset, v => { s with highRam := s.highRam.store unlistedRam offset v }
  | .noMeaning, _, _ => s

/-! ## Bus access (20_memory.md R72 to R74) -/

/-- Where an access of an address goes. -/
def State.target (s : State) (address : Word) : Device × Nat :=
  translateAddress s.config.echo s.bootActive address

/-- The address has a meaning under `WRAM_ECHO_MODE` (20_memory.md R67). -/
def State.reaches (s : State) (address : Word) : Bool :=
  decide ((s.target address).1 ≠ .noMeaning)

/-- The byte a read of an address returns. -/
def State.loadByte (s : State) (address : Word) : Byte :=
  s.deviceByte (s.target address).1 (s.target address).2

/-- An access of exactly 0x0100 clears `boot_active` (20_memory.md R72). -/
def State.touch (s : State) (address : Word) : State :=
  { s with bootActive := s.bootActive && decide (address ≠ 0x0100) }

/-- The state after a read of an address. -/
def State.afterLoad (s : State) (address : Word) : State :=
  (s.touch address).afterDeviceRead (s.target address).1

/-- The state after a write of a byte to an address. -/
def State.store (s : State) (address : Word) (v : Byte) : State :=
  (s.touch address).deviceWrite (s.target address).1 (s.target address).2 v

/-- `MemRead(addr, 1)` (20_memory.md R73): the byte and the state after it. -/
def memRead (address : Word) (s : State) : Res (Byte × State) :=
  if s.reaches address then .next (s.loadByte address, s.afterLoad address)
  else .refused (.echoWindow address)

/-- `MemWrite(addr, 1, v)` (20_memory.md R74). -/
def memWrite (address : Word) (v : Byte) (s : State) : Res State :=
  if s.reaches address then .next (s.store address v) else .refused (.echoWindow address)

/-- A Bus read by an address of any width: outside 0x0000-0xFFFF it fails with InvalidAddress
(20_memory.md R75, 60_exceptions.md R401, log 15). -/
def busReadChecked (address : Nat) (s : State) : Except FaultRecord (Res (Byte × State)) :=
  if address < 0x10000 then .ok (memRead (BitVec.ofNat 16 address) s)
  else .error (.invalidAddress .bus .read address)

/-- A Bus write by an address of any width, as `busReadChecked` (20_memory.md R75, log 15). -/
def busWriteChecked (address : Nat) (v : Byte) (s : State) : Except FaultRecord (Res State) :=
  if address < 0x10000 then .ok (memWrite (BitVec.ofNat 16 address) v s)
  else .error (.invalidAddress .bus .write address)

/-! ## The stack and immediate bytes (00_scope.md R14) -/

/-- `Push16(v)`: the high byte at SP - 1, then the low byte at SP - 2. -/
def push16 (v : Word) (s : State) : Res State :=
  let s1 := s.setSp (s.sp - 1)
  andThen (memWrite s1.sp (highByte v) s1) fun s2 =>
    let s3 := s2.setSp (s2.sp - 1)
    memWrite s3.sp (lowByte v) s3

/-- `Pop16()`: the low byte at SP, then the high byte at SP + 1. -/
def pop16 (s : State) : Res (Word × State) :=
  andThen (memRead s.sp s) fun (lo, s1) =>
    let s2 := s1.setSp (s1.sp + 1)
    andThen (memRead s2.sp s2) fun (hi, s3) =>
      .next (wordOf hi lo, s3.setSp (s3.sp + 1))

/-- `FetchImm8()`: always advances pc, halted or not (40_step_and_system.md R203). -/
def fetchImm8 (s : State) : Res (Byte × State) :=
  andThen (memRead s.pc s) fun (v, s1) => .next (v, s1.setPc (s1.pc + 1))

end Sys2Proof.Machine
end

