-- ==== Sys2Proof/Machine/Operands.lean ====
section
/-! DEFINITION. Operand forms: register codes, pairs, conditions, displacements and 0xFF00-page
addresses (00_scope.md R12; 30_encoding.md R123 to R130). -/

namespace Sys2Proof.Machine

/-- `ReadR8(c)` (00_scope.md R12). -/
def readR8 (r : R8) (s : State) : Res (Byte × State) :=
  match r with
  | .reg r => .next (s.getReg r, s)
  | .atHl => memRead s.hl s

/-- `WriteR8(c, v)` (00_scope.md R12). -/
def writeR8 (r : R8) (v : Byte) (s : State) : Res State :=
  match r with
  | .reg r => .next (s.setReg r v)
  | .atHl => memWrite s.hl v s

/-- The registers that reading a register code reads (00_scope.md R11, R12; log 21). -/
def r8Reads : R8 → List RegName
  | .reg r => [.reg r]
  | .atHl => [.reg .h, .reg .l]

/-- The registers that writing a register code reads: the address (00_scope.md R12). -/
def r8AddressReads : R8 → List RegName
  | .reg _ => []
  | .atHl => [.reg .h, .reg .l]

/-- The registers that reading a pair reads (00_scope.md R11; log 21). -/
def pairReads : Pair → List RegName
  | .bc => [.reg .b, .reg .c]
  | .de => [.reg .d, .reg .e]
  | .hl => [.reg .h, .reg .l]
  | .sp => [.sp]

/-- The registers and flags that PUSH of a pair reads before SP (42_loads16_stack.md R254; log 21). -/
def stackPairReads : StackPair → List RegName
  | .bc => [.reg .b, .reg .c]
  | .de => [.reg .d, .reg .e]
  | .hl => [.reg .h, .reg .l]
  | .af => [.reg .a, .flag .z, .flag .n, .flag .h, .flag .c]

/-- The flag a condition reads (30_encoding.md R127). -/
def condReads : Cond → List RegName
  | .nz => [.flag .z]
  | .z => [.flag .z]
  | .nc => [.flag .c]
  | .c => [.flag .c]

/-- `x[rp[p]]` (30_encoding.md R124). -/
def State.getPair (s : State) : Pair → Word
  | .bc => s.bc
  | .de => s.de
  | .hl => s.hl
  | .sp => s.sp

/-- `x[rp[p]] <- v`. -/
def State.setPair (s : State) : Pair → Word → State
  | .bc, v => s.setBc v
  | .de, v => s.setDe v
  | .hl, v => s.setHl v
  | .sp, v => s.setSp v

/-- F as a byte: Z bit 7, N bit 6, H bit 5, C bit 4, bits 3-0 zero (10_state.md R22). -/
def Flags.toByte (f : Flags) : Byte :=
  (if f.z then 0x80 else 0x00) ||| (if f.n then 0x40 else 0x00)
    ||| (if f.h then 0x20 else 0x00) ||| (if f.c then 0x10 else 0x00)

/-- The flags a byte loads into F: bits 3-0 are dropped (42_loads16_stack.md R256). -/
def Flags.ofByte (v : Byte) : Flags where
  z := v.getLsbD 7
  n := v.getLsbD 6
  h := v.getLsbD 5
  c := v.getLsbD 4

/-- `x[rp2[p]]` (30_encoding.md R125); AF is A and F (00_scope.md R11). -/
def State.getStackPair (s : State) : StackPair → Word
  | .bc => s.bc
  | .de => s.de
  | .hl => s.hl
  | .af => wordOf s.a s.flags.toByte

/-- `x[rp2[p]] <- v`; for AF the flags are taken from the low byte (42_loads16_stack.md R256). -/
def State.setStackPair (s : State) : StackPair → Word → State
  | .bc, v => s.setBc v
  | .de, v => s.setDe v
  | .hl, v => s.setHl v
  | .af, v => (s.setReg .a (highByte v)).setFlags (Flags.ofByte (lowByte v))

/-- `cond(cc)` (30_encoding.md R127). -/
def Flags.cond (f : Flags) : Cond → Bool
  | .nz => !f.z
  | .z => f.z
  | .nc => !f.c
  | .c => f.c

/-- `UNIMPL_CCALL` names this opcode byte (46_control_transfer.md R346). -/
def unimplementedCall (config : Config) (op : Byte) : Bool :=
  match op with
  | 0xC4#8 => config.unimplCcall.nz
  | 0xCC#8 => config.unimplCcall.z
  | 0xD4#8 => config.unimplCcall.nc
  | 0xDC#8 => config.unimplCcall.c
  | _ => false

/-- `sext_16(e)` (00_scope.md R10). -/
def displacement (e : Byte) : Word := e.signExtend 16

/-- `0xFF00 + zext_16(n)` (30_encoding.md R130, `a8`). -/
def highAddress (n : Byte) : Word := 0xFF00 + n.setWidth 16

/-- The value the operand of a register code has, when its address has a meaning. -/
def State.r8Byte (s : State) : R8 → Byte
  | .reg r => s.getReg r
  | .atHl => s.loadByte s.hl

/-- The state after that operand is read. -/
def State.afterR8 (s : State) : R8 → State
  | .reg _ => s
  | .atHl => s.afterLoad s.hl

/-- The state after a byte is written to that operand. -/
def State.putR8 (s : State) : R8 → Byte → State
  | .reg r, v => s.setReg r v
  | .atHl, v => s.store s.hl v

/-- The operand's address, if it is in memory, has a meaning (20_memory.md R67). -/
def State.r8Reaches (s : State) : R8 → Bool
  | .reg _ => true
  | .atHl => s.reaches s.hl

end Sys2Proof.Machine
end

