-- ==== Sys2Proof/Machine/Flags.lean ====
section
/-! DEFINITION. Results and flags of the arithmetic, logic, rotate and shift operations
(10_state.md R23; files 43, 44, 45 and 42 R253). Sums and differences are compared as natural
numbers, results are reduced to their width (00_scope.md R10). -/

namespace Sys2Proof.Machine

/-- `v & 0x0F` and `v & 0x0FFF` as numbers. -/
def nibble (v : Byte) : Nat := (v &&& 0x0F).toNat
def low12 (v : Word) : Nat := (v &&& 0x0FFF).toNat

/-- A carry as a byte and a Boolean as a bit. -/
def carryByte (c : Bool) : Byte := if c then 1 else 0

/-- Flags of `a + v + c` (43_alu8.md R271, R272). -/
def addFlags (a v : Byte) (c : Bool) : Flags where
  z := decide (a + v + carryByte c = 0)
  n := false
  h := decide (nibble a + nibble v + c.toNat > 0x0F)
  c := decide (a.toNat + v.toNat + c.toNat > 0xFF)

/-- Flags of `a - v - c` (43_alu8.md R273, R274). -/
def subFlags (a v : Byte) (c : Bool) : Flags where
  z := decide (a - v - carryByte c = 0)
  n := true
  h := decide (nibble a < nibble v + c.toNat)
  c := decide (a.toNat < v.toNat + c.toNat)

/-- Flags of a logical result; AND sets H (43_alu8.md R275 to R277). -/
def logicFlags (r : Byte) (h : Bool) : Flags where
  z := decide (r = 0)
  n := false
  h := h
  c := false

/-- The result an ALU operation writes to A, or none for CP, which writes no result
(43_alu8.md R271 to R278). -/
def aluValue : AluOp → Byte → Byte → Bool → Option Byte
  | .add, a, v, _ => some (a + v)
  | .adc, a, v, c => some (a + v + carryByte c)
  | .sub, a, v, _ => some (a - v)
  | .sbc, a, v, c => some (a - v - carryByte c)
  | .and, a, v, _ => some (a &&& v)
  | .xor, a, v, _ => some (a ^^^ v)
  | .or, a, v, _ => some (a ||| v)
  | .cp, _, _, _ => none

/-- The carry flag is an operand of ADC and SBC only (43_alu8.md R272, R274). -/
def aluCarryReads : AluOp → List RegName
  | .add => []
  | .adc => [.flag .c]
  | .sub => []
  | .sbc => [.flag .c]
  | .and => []
  | .xor => []
  | .or => []
  | .cp => []

/-- The carry flag is an operand of the rotates through it only (45_rotate_shift_bit.md R312, R313,
R317, R318), read where their pseudocode uses `c` (log 21). -/
def rotCarryReads : RotOp → List RegName
  | .rlc => []
  | .rrc => []
  | .rl => [.flag .c]
  | .rr => [.flag .c]
  | .sla => []
  | .sra => []
  | .swap => []
  | .srl => []

/-- The flags an ALU operation writes (43_alu8.md R271 to R278). -/
def aluFlags : AluOp → Byte → Byte → Bool → Flags
  | .add, a, v, _ => addFlags a v false
  | .adc, a, v, c => addFlags a v c
  | .sub, a, v, _ => subFlags a v false
  | .sbc, a, v, c => subFlags a v c
  | .and, a, v, _ => logicFlags (a &&& v) true
  | .xor, a, v, _ => logicFlags (a ^^^ v) false
  | .or, a, v, _ => logicFlags (a ||| v) false
  | .cp, a, v, _ => subFlags a v false

/-- Flags of INC: C is kept (43_alu8.md R279). -/
def incFlags (v : Byte) : FlagWrites where
  z := some (decide (v + 1 = 0))
  n := some false
  h := some (decide (nibble v = 0x0F))
  c := none

/-- Flags of DEC: C is kept (43_alu8.md R280). -/
def decFlags (v : Byte) : FlagWrites where
  z := some (decide (v - 1 = 0))
  n := some true
  h := some (decide (nibble v = 0x00))
  c := none

/-- The adjusted A and the carry of DAA (43_alu8.md R281). -/
def daaAdjust (a : Byte) (f : Flags) : Byte × Bool :=
  if f.n then
    let a1 := if f.c then a - 0x60 else a
    let a2 := if f.h then a1 - 0x06 else a1
    (a2, f.c)
  else
    let high := f.c || decide (a.toNat > 0x99)
    let a1 := if high then a + 0x60 else a
    let a2 := if f.h || decide (nibble a1 > 0x09) then a1 + 0x06 else a1
    (a2, high)

/-- Flags of ADD HL,rr: Z is kept, carries out of bits 11 and 15 (44_alu16.md R302). -/
def addHlFlags (a v : Word) : FlagWrites where
  z := none
  n := some false
  h := some (decide (low12 a + low12 v > 0x0FFF))
  c := some (decide (a.toNat + v.toNat > 0xFFFF))

/-- Flags of SP + e8, from SP's low byte and the raw displacement (42_loads16_stack.md R253,
44_alu16.md R303). -/
def spOffsetFlags (sp : Word) (e : Byte) : Flags where
  z := false
  n := false
  h := decide (nibble (lowByte sp) + nibble e > 0x0F)
  c := decide ((lowByte sp).toNat + e.toNat > 0xFF)

/-- The result of a rotate or shift with carry in `c` (45_rotate_shift_bit.md R315 to R322). -/
def rotValue : RotOp → Byte → Bool → Byte
  | .rlc, v, _ => (v <<< 1) ||| carryByte (v.getLsbD 7)
  | .rrc, v, _ => (v >>> 1) ||| (carryByte (v.getLsbD 0) <<< 7)
  | .rl, v, c => (v <<< 1) ||| carryByte c
  | .rr, v, c => (v >>> 1) ||| (carryByte c <<< 7)
  | .sla, v, _ => v <<< 1
  | .sra, v, _ => (v >>> 1) ||| (v &&& 0x80)
  | .swap, v, _ => ((v &&& 0x0F) <<< 4) ||| (v >>> 4)
  | .srl, v, _ => v >>> 1

/-- The carry a rotate or shift leaves (45_rotate_shift_bit.md R315 to R322). -/
def rotCarry : RotOp → Byte → Bool
  | .rlc, v => v.getLsbD 7
  | .rrc, v => v.getLsbD 0
  | .rl, v => v.getLsbD 7
  | .rr, v => v.getLsbD 0
  | .sla, v => v.getLsbD 7
  | .sra, v => v.getLsbD 0
  | .swap, _ => false
  | .srl, v => v.getLsbD 0

/-- Flags of an extended rotate or shift (45_rotate_shift_bit.md R315 to R322). -/
def rotFlags (op : RotOp) (v : Byte) (c : Bool) : Flags where
  z := decide (rotValue op v c = 0)
  n := false
  h := false
  c := rotCarry op v

/-- Flags of an accumulator rotate: Z is always 0 (45_rotate_shift_bit.md R310 to R313). -/
def rotAFlags (op : RotOp) (v : Byte) : Flags where
  z := false
  n := false
  h := false
  c := rotCarry op v

/-- Flags of BIT: C is kept (45_rotate_shift_bit.md R323). -/
def bitFlags (v : Byte) (b : Nat) : FlagWrites where
  z := some (!v.getLsbD b)
  n := some false
  h := some true
  c := none

/-- The operation extended rows 0x10-0x1F perform under `CB_ROW1_AS_RLC`
(45_rotate_shift_bit.md R314). -/
def rotEffective (cbRow1AsRlc : Bool) : RotOp → RotOp
  | .rl => if cbRow1AsRlc then .rlc else .rl
  | .rr => if cbRow1AsRlc then .rrc else .rr
  | .rlc => .rlc
  | .rrc => .rrc
  | .sla => .sla
  | .sra => .sra
  | .swap => .swap
  | .srl => .srl

end Sys2Proof.Machine
end

