-- ==== Sys2Proof/Machine/Alu16.lean ====
section
/-! DEFINITION. 16-bit arithmetic (44_alu16.md R300 to R303). -/

namespace Sys2Proof.Machine

/-- `INC rr`; no flag (R300). -/
def incPair (p : Pair) (s : State) : Res State :=
  reading (pairReads p) 1 s (.next (s.setPair p (s.getPair p + 1)))

/-- `DEC rr`; no flag (R301). -/
def decPair (p : Pair) (s : State) : Res State :=
  reading (pairReads p) 1 s (.next (s.setPair p (s.getPair p - 1)))

/-- `ADD HL,rr` (R302). -/
def addHl (p : Pair) (s : State) : Res State :=
  reading (pairReads .hl ++ pairReads p) 1 s <|
    .next ((s.setHl (s.hl + s.getPair p)).writeFlags (addHlFlags s.hl (s.getPair p)))

/-- `ADD SP,e8` (R303). -/
def addSpE8 (e : Byte) (s : State) : Res State :=
  reading [.sp] 2 s (.next ((s.setSp (s.sp + displacement e)).setFlags (spOffsetFlags s.sp e)))

/-- `INC BC` (0x03): R300. -/
def execIncBc (s : State) : Res State := incPair .bc s
/-- `ADD HL,BC` (0x09): R302. -/
def execAddHlBc (s : State) : Res State := addHl .bc s
/-- `DEC BC` (0x0B): R301. -/
def execDecBc (s : State) : Res State := decPair .bc s
/-- `INC DE` (0x13): R300. -/
def execIncDe (s : State) : Res State := incPair .de s
/-- `ADD HL,DE` (0x19): R302. -/
def execAddHlDe (s : State) : Res State := addHl .de s
/-- `DEC DE` (0x1B): R301. -/
def execDecDe (s : State) : Res State := decPair .de s
/-- `INC HL` (0x23): R300. -/
def execIncHl (s : State) : Res State := incPair .hl s
/-- `ADD HL,HL` (0x29): R302. -/
def execAddHlHl (s : State) : Res State := addHl .hl s
/-- `DEC HL` (0x2B): R301. -/
def execDecHl (s : State) : Res State := decPair .hl s
/-- `INC SP` (0x33): R300. -/
def execIncSp (s : State) : Res State := incPair .sp s
/-- `ADD HL,SP` (0x39): R302. -/
def execAddHlSp (s : State) : Res State := addHl .sp s
/-- `DEC SP` (0x3B): R301. -/
def execDecSp (s : State) : Res State := decPair .sp s
/-- `ADD SP,e8` (0xE8): R303. -/
def execAddSpE8 (e : Byte) (s : State) : Res State := addSpE8 e s

end Sys2Proof.Machine
end

