-- ==== Sys2Proof/Machine/Alu8.lean ====
section
/-! DEFINITION. 8-bit arithmetic and logic (43_alu8.md R270 to R284). -/

namespace Sys2Proof.Machine

/-- An ALU operation on A and `v`: flags are written, and A unless the operation is CP
(R271 to R278). -/
def State.alu (s : State) (op : AluOp) (v : Byte) : State :=
  let a := s.getReg .a
  let c := s.flags.c
  let s1 := match aluValue op a v c with
    | some r => s.setReg .a r
    | none => s
  s1.setFlags (aluFlags op a v c)

/-- The reads of an ALU operation after its operand: A, then the carry (R270, R272, R274). -/
def aluReads (op : AluOp) : List RegName := .reg .a :: aluCarryReads op

/-- `alu[y] A,r8[z]`: the operand is read before A (R270). -/
def aluR8 (op : AluOp) (r : R8) (s : State) : Res State :=
  reading (r8Reads r) 1 s <|
    andThen (readR8 r s) fun (v, s1) => reading (aluReads op) 1 s1 (.next (s1.alu op v))

/-- `alu[y] A,n8` (R270). -/
def aluN8 (op : AluOp) (n : Byte) (s : State) : Res State :=
  reading (aluReads op) 2 s (.next (s.alu op n))

/-- `INC r8[y]` (R279). -/
def incR8 (r : R8) (s : State) : Res State :=
  reading (r8Reads r) 1 s <| andThen (readR8 r s) fun (v, s1) =>
    andThen (writeR8 r (v + 1) s1) fun s2 => .next (s2.writeFlags (incFlags v))

/-- `DEC r8[y]` (R280). -/
def decR8 (r : R8) (s : State) : Res State :=
  reading (r8Reads r) 1 s <| andThen (readR8 r s) fun (v, s1) =>
    andThen (writeR8 r (v - 1) s1) fun s2 => .next (s2.writeFlags (decFlags v))

/-- DAA: A and C adjusted, H cleared, N kept (R281). -/
def daa (s : State) : Res State :=
  let adjusted := daaAdjust (s.getReg .a) s.flags
  reading [.reg .a, .flag .c, .flag .n, .flag .h] 1 s <|
    .next ((s.setReg .a adjusted.1).writeFlags
      ⟨some (decide (adjusted.1 = 0)), none, some false, some adjusted.2⟩)

/-- CPL: A complemented, N and H set (R282). -/
def cpl (s : State) : Res State :=
  reading [.reg .a] 1 s <|
    .next ((s.setReg .a (s.getReg .a ^^^ 0xFF)).writeFlags ⟨none, some true, some true, none⟩)

/-- SCF (R283). -/
def scf (s : State) : Res State := .next (s.writeFlags ⟨none, some false, some false, some true⟩)

/-- CCF: N and H are cleared before C is read, so they stay cleared where that read faults (R284,
60_exceptions.md R407; log 21). -/
def ccf (s : State) : Res State :=
  let s1 := s.writeFlags ⟨none, some false, some false, none⟩
  reading [.flag .c] 1 s1 (.next (s1.writeFlags ⟨none, none, none, some (!s1.flags.c)⟩))

/-- `INC B` (0x04): R279. -/
def execIncB (s : State) : Res State := incR8 (.reg .b) s
/-- `DEC B` (0x05): R280. -/
def execDecB (s : State) : Res State := decR8 (.reg .b) s
/-- `INC C` (0x0C): R279. -/
def execIncC (s : State) : Res State := incR8 (.reg .c) s
/-- `DEC C` (0x0D): R280. -/
def execDecC (s : State) : Res State := decR8 (.reg .c) s
/-- `INC D` (0x14): R279. -/
def execIncD (s : State) : Res State := incR8 (.reg .d) s
/-- `DEC D` (0x15): R280. -/
def execDecD (s : State) : Res State := decR8 (.reg .d) s
/-- `INC E` (0x1C): R279. -/
def execIncE (s : State) : Res State := incR8 (.reg .e) s
/-- `DEC E` (0x1D): R280. -/
def execDecE (s : State) : Res State := decR8 (.reg .e) s
/-- `INC H` (0x24): R279. -/
def execIncH (s : State) : Res State := incR8 (.reg .h) s
/-- `DEC H` (0x25): R280. -/
def execDecH (s : State) : Res State := decR8 (.reg .h) s
/-- `DAA` (0x27): R281. -/
def execDaa (s : State) : Res State := daa s
/-- `INC L` (0x2C): R279. -/
def execIncL (s : State) : Res State := incR8 (.reg .l) s
/-- `DEC L` (0x2D): R280. -/
def execDecL (s : State) : Res State := decR8 (.reg .l) s
/-- `CPL` (0x2F): R282. -/
def execCpl (s : State) : Res State := cpl s
/-- `INC (HL)` (0x34): R279. -/
def execIncAtHl (s : State) : Res State := incR8 .atHl s
/-- `DEC (HL)` (0x35): R280. -/
def execDecAtHl (s : State) : Res State := decR8 .atHl s
/-- `SCF` (0x37): R283. -/
def execScf (s : State) : Res State := scf s
/-- `INC A` (0x3C): R279. -/
def execIncA (s : State) : Res State := incR8 (.reg .a) s
/-- `DEC A` (0x3D): R280. -/
def execDecA (s : State) : Res State := decR8 (.reg .a) s
/-- `CCF` (0x3F): R284. -/
def execCcf (s : State) : Res State := ccf s
/-- `ADD A,B` (0x80): R271. -/
def execAddAB (s : State) : Res State := aluR8 .add (.reg .b) s
/-- `ADD A,C` (0x81): R271. -/
def execAddAC (s : State) : Res State := aluR8 .add (.reg .c) s
/-- `ADD A,D` (0x82): R271. -/
def execAddAD (s : State) : Res State := aluR8 .add (.reg .d) s
/-- `ADD A,E` (0x83): R271. -/
def execAddAE (s : State) : Res State := aluR8 .add (.reg .e) s
/-- `ADD A,H` (0x84): R271. -/
def execAddAH (s : State) : Res State := aluR8 .add (.reg .h) s
/-- `ADD A,L` (0x85): R271. -/
def execAddAL (s : State) : Res State := aluR8 .add (.reg .l) s
/-- `ADD A,(HL)` (0x86): R271. -/
def execAddAAtHl (s : State) : Res State := aluR8 .add .atHl s
/-- `ADD A,A` (0x87): R271. -/
def execAddAA (s : State) : Res State := aluR8 .add (.reg .a) s
/-- `ADC A,B` (0x88): R272. -/
def execAdcAB (s : State) : Res State := aluR8 .adc (.reg .b) s
/-- `ADC A,C` (0x89): R272. -/
def execAdcAC (s : State) : Res State := aluR8 .adc (.reg .c) s
/-- `ADC A,D` (0x8A): R272. -/
def execAdcAD (s : State) : Res State := aluR8 .adc (.reg .d) s
/-- `ADC A,E` (0x8B): R272. -/
def execAdcAE (s : State) : Res State := aluR8 .adc (.reg .e) s
/-- `ADC A,H` (0x8C): R272. -/
def execAdcAH (s : State) : Res State := aluR8 .adc (.reg .h) s
/-- `ADC A,L` (0x8D): R272. -/
def execAdcAL (s : State) : Res State := aluR8 .adc (.reg .l) s
/-- `ADC A,(HL)` (0x8E): R272. -/
def execAdcAAtHl (s : State) : Res State := aluR8 .adc .atHl s
/-- `ADC A,A` (0x8F): R272. -/
def execAdcAA (s : State) : Res State := aluR8 .adc (.reg .a) s
/-- `SUB A,B` (0x90): R273. -/
def execSubAB (s : State) : Res State := aluR8 .sub (.reg .b) s
/-- `SUB A,C` (0x91): R273. -/
def execSubAC (s : State) : Res State := aluR8 .sub (.reg .c) s
/-- `SUB A,D` (0x92): R273. -/
def execSubAD (s : State) : Res State := aluR8 .sub (.reg .d) s
/-- `SUB A,E` (0x93): R273. -/
def execSubAE (s : State) : Res State := aluR8 .sub (.reg .e) s
/-- `SUB A,H` (0x94): R273. -/
def execSubAH (s : State) : Res State := aluR8 .sub (.reg .h) s
/-- `SUB A,L` (0x95): R273. -/
def execSubAL (s : State) : Res State := aluR8 .sub (.reg .l) s
/-- `SUB A,(HL)` (0x96): R273. -/
def execSubAAtHl (s : State) : Res State := aluR8 .sub .atHl s
/-- `SUB A,A` (0x97): R273. -/
def execSubAA (s : State) : Res State := aluR8 .sub (.reg .a) s
/-- `SBC A,B` (0x98): R274. -/
def execSbcAB (s : State) : Res State := aluR8 .sbc (.reg .b) s
/-- `SBC A,C` (0x99): R274. -/
def execSbcAC (s : State) : Res State := aluR8 .sbc (.reg .c) s
/-- `SBC A,D` (0x9A): R274. -/
def execSbcAD (s : State) : Res State := aluR8 .sbc (.reg .d) s
/-- `SBC A,E` (0x9B): R274. -/
def execSbcAE (s : State) : Res State := aluR8 .sbc (.reg .e) s
/-- `SBC A,H` (0x9C): R274. -/
def execSbcAH (s : State) : Res State := aluR8 .sbc (.reg .h) s
/-- `SBC A,L` (0x9D): R274. -/
def execSbcAL (s : State) : Res State := aluR8 .sbc (.reg .l) s
/-- `SBC A,(HL)` (0x9E): R274. -/
def execSbcAAtHl (s : State) : Res State := aluR8 .sbc .atHl s
/-- `SBC A,A` (0x9F): R274. -/
def execSbcAA (s : State) : Res State := aluR8 .sbc (.reg .a) s
/-- `AND A,B` (0xA0): R275. -/
def execAndAB (s : State) : Res State := aluR8 .and (.reg .b) s
/-- `AND A,C` (0xA1): R275. -/
def execAndAC (s : State) : Res State := aluR8 .and (.reg .c) s
/-- `AND A,D` (0xA2): R275. -/
def execAndAD (s : State) : Res State := aluR8 .and (.reg .d) s
/-- `AND A,E` (0xA3): R275. -/
def execAndAE (s : State) : Res State := aluR8 .and (.reg .e) s
/-- `AND A,H` (0xA4): R275. -/
def execAndAH (s : State) : Res State := aluR8 .and (.reg .h) s
/-- `AND A,L` (0xA5): R275. -/
def execAndAL (s : State) : Res State := aluR8 .and (.reg .l) s
/-- `AND A,(HL)` (0xA6): R275. -/
def execAndAAtHl (s : State) : Res State := aluR8 .and .atHl s
/-- `AND A,A` (0xA7): R275. -/
def execAndAA (s : State) : Res State := aluR8 .and (.reg .a) s
/-- `XOR A,B` (0xA8): R276. -/
def execXorAB (s : State) : Res State := aluR8 .xor (.reg .b) s
/-- `XOR A,C` (0xA9): R276. -/
def execXorAC (s : State) : Res State := aluR8 .xor (.reg .c) s
/-- `XOR A,D` (0xAA): R276. -/
def execXorAD (s : State) : Res State := aluR8 .xor (.reg .d) s
/-- `XOR A,E` (0xAB): R276. -/
def execXorAE (s : State) : Res State := aluR8 .xor (.reg .e) s
/-- `XOR A,H` (0xAC): R276. -/
def execXorAH (s : State) : Res State := aluR8 .xor (.reg .h) s
/-- `XOR A,L` (0xAD): R276. -/
def execXorAL (s : State) : Res State := aluR8 .xor (.reg .l) s
/-- `XOR A,(HL)` (0xAE): R276. -/
def execXorAAtHl (s : State) : Res State := aluR8 .xor .atHl s
/-- `XOR A,A` (0xAF): R276. -/
def execXorAA (s : State) : Res State := aluR8 .xor (.reg .a) s
/-- `OR A,B` (0xB0): R277. -/
def execOrAB (s : State) : Res State := aluR8 .or (.reg .b) s
/-- `OR A,C` (0xB1): R277. -/
def execOrAC (s : State) : Res State := aluR8 .or (.reg .c) s
/-- `OR A,D` (0xB2): R277. -/
def execOrAD (s : State) : Res State := aluR8 .or (.reg .d) s
/-- `OR A,E` (0xB3): R277. -/
def execOrAE (s : State) : Res State := aluR8 .or (.reg .e) s
/-- `OR A,H` (0xB4): R277. -/
def execOrAH (s : State) : Res State := aluR8 .or (.reg .h) s
/-- `OR A,L` (0xB5): R277. -/
def execOrAL (s : State) : Res State := aluR8 .or (.reg .l) s
/-- `OR A,(HL)` (0xB6): R277. -/
def execOrAAtHl (s : State) : Res State := aluR8 .or .atHl s
/-- `OR A,A` (0xB7): R277. -/
def execOrAA (s : State) : Res State := aluR8 .or (.reg .a) s
/-- `CP A,B` (0xB8): R278. -/
def execCpAB (s : State) : Res State := aluR8 .cp (.reg .b) s
/-- `CP A,C` (0xB9): R278. -/
def execCpAC (s : State) : Res State := aluR8 .cp (.reg .c) s
/-- `CP A,D` (0xBA): R278. -/
def execCpAD (s : State) : Res State := aluR8 .cp (.reg .d) s
/-- `CP A,E` (0xBB): R278. -/
def execCpAE (s : State) : Res State := aluR8 .cp (.reg .e) s
/-- `CP A,H` (0xBC): R278. -/
def execCpAH (s : State) : Res State := aluR8 .cp (.reg .h) s
/-- `CP A,L` (0xBD): R278. -/
def execCpAL (s : State) : Res State := aluR8 .cp (.reg .l) s
/-- `CP A,(HL)` (0xBE): R278. -/
def execCpAAtHl (s : State) : Res State := aluR8 .cp .atHl s
/-- `CP A,A` (0xBF): R278. -/
def execCpAA (s : State) : Res State := aluR8 .cp (.reg .a) s
/-- `ADD A,n8` (0xC6): R271. -/
def execAddAN8 (n : Byte) (s : State) : Res State := aluN8 .add n s
/-- `ADC A,n8` (0xCE): R272. -/
def execAdcAN8 (n : Byte) (s : State) : Res State := aluN8 .adc n s
/-- `SUB A,n8` (0xD6): R273. -/
def execSubAN8 (n : Byte) (s : State) : Res State := aluN8 .sub n s
/-- `SBC A,n8` (0xDE): R274. -/
def execSbcAN8 (n : Byte) (s : State) : Res State := aluN8 .sbc n s
/-- `AND A,n8` (0xE6): R275. -/
def execAndAN8 (n : Byte) (s : State) : Res State := aluN8 .and n s
/-- `XOR A,n8` (0xEE): R276. -/
def execXorAN8 (n : Byte) (s : State) : Res State := aluN8 .xor n s
/-- `OR A,n8` (0xF6): R277. -/
def execOrAN8 (n : Byte) (s : State) : Res State := aluN8 .or n s
/-- `CP A,n8` (0xFE): R278. -/
def execCpAN8 (n : Byte) (s : State) : Res State := aluN8 .cp n s

end Sys2Proof.Machine
end

