-- ==== Sys2Proof/Machine/Control.lean ====
section
/-! DEFINITION. Control transfer (46_control_transfer.md R340 to R350). On entry pc is the address
after the instruction's bytes (outside the halted case of 40_step_and_system.md R201). -/

namespace Sys2Proof.Machine

/-- JR e8 (R340). -/
def jumpRelative (e : Byte) (s : State) : Res State := .next (s.setPc (s.pc + displacement e))

/-- JR cc,e8 (R341). -/
def jumpRelativeIf (cc : Cond) (e : Byte) (s : State) : Res State :=
  reading (condReads cc) 2 s (if s.flags.cond cc then jumpRelative e s else .next s)

/-- JP a16 (R342). -/
def jump (address : Word) (s : State) : Res State := .next (s.setPc address)

/-- JP cc,a16 (R343). -/
def jumpIf (cc : Cond) (address : Word) (s : State) : Res State :=
  reading (condReads cc) 3 s (if s.flags.cond cc then jump address s else .next s)

/-- JP HL: the target is HL itself (R344). -/
def jumpHl (s : State) : Res State := reading (pairReads .hl) 1 s (.next (s.setPc s.hl))

/-- Push pc, then jump: a call or restart of which `len` bytes have been fetched (R345, R350). -/
def callFrom (len : Nat) (address : Word) (s : State) : Res State :=
  reading [.sp] len s (andThen (push16 s.pc s) fun s1 => .next (s1.setPc address))

/-- CALL a16 (R345). -/
def call (address : Word) (s : State) : Res State := callFrom 3 address s

/-- The opcode of a conditional call: `11 0cc 100` (R346). -/
def callOpcode : Cond → Byte
  | .nz => 0xC4
  | .z => 0xCC
  | .nc => 0xD4
  | .c => 0xDC

/-- CALL cc,a16; a call that `UNIMPL_CCALL` names raises IllegalInstruction (R346, log 11). -/
def callIf (cc : Cond) (address : Word) (s : State) : Res State :=
  if unimplementedCall s.config (callOpcode cc) then .next (s.raiseIllegal (callOpcode cc) 3)
  else reading (condReads cc) 3 s (if s.flags.cond cc then call address s else .next s)

/-- RET (R347). -/
def ret (s : State) : Res State :=
  reading [.sp] 1 s (andThen (pop16 s) fun (v, s1) => .next (s1.setPc v))

/-- RETI: RET, then `IME <- true` (R348). -/
def reti (s : State) : Res State :=
  reading [.sp] 1 s (andThen (pop16 s) fun (v, s1) => .next ((s1.setPc v).setIme true))

/-- RET cc (R349). -/
def retIf (cc : Cond) (s : State) : Res State :=
  reading (condReads cc) 1 s (if s.flags.cond cc then ret s else .next s)

/-- RST y*8 (R350). -/
def restart (y : Nat) (s : State) : Res State := callFrom 1 (BitVec.ofNat 16 (y * 8)) s

/-- `JR e8` (0x18): R340. -/
def execJrE8 (e : Byte) (s : State) : Res State := jumpRelative e s
/-- `JR NZ,e8` (0x20): R341. -/
def execJrNzE8 (e : Byte) (s : State) : Res State := jumpRelativeIf .nz e s
/-- `JR Z,e8` (0x28): R341. -/
def execJrZE8 (e : Byte) (s : State) : Res State := jumpRelativeIf .z e s
/-- `JR NC,e8` (0x30): R341. -/
def execJrNcE8 (e : Byte) (s : State) : Res State := jumpRelativeIf .nc e s
/-- `JR C,e8` (0x38): R341. -/
def execJrCE8 (e : Byte) (s : State) : Res State := jumpRelativeIf .c e s
/-- `RET NZ` (0xC0): R349. -/
def execRetNz (s : State) : Res State := retIf .nz s
/-- `JP NZ,a16` (0xC2): R343. -/
def execJpNzA16 (addr : Word) (s : State) : Res State := jumpIf .nz addr s
/-- `JP a16` (0xC3): R342. -/
def execJpA16 (addr : Word) (s : State) : Res State := jump addr s
/-- `CALL NZ,a16` (0xC4): R346. -/
def execCallNzA16 (addr : Word) (s : State) : Res State := callIf .nz addr s
/-- `RST 0x00` (0xC7): R350. -/
def execRst00 (s : State) : Res State := restart 0 s
/-- `RET Z` (0xC8): R349. -/
def execRetZ (s : State) : Res State := retIf .z s
/-- `RET` (0xC9): R347. -/
def execRet (s : State) : Res State := ret s
/-- `JP Z,a16` (0xCA): R343. -/
def execJpZA16 (addr : Word) (s : State) : Res State := jumpIf .z addr s
/-- `CALL Z,a16` (0xCC): R346. -/
def execCallZA16 (addr : Word) (s : State) : Res State := callIf .z addr s
/-- `CALL a16` (0xCD): R345. -/
def execCallA16 (addr : Word) (s : State) : Res State := call addr s
/-- `RST 0x08` (0xCF): R350. -/
def execRst08 (s : State) : Res State := restart 1 s
/-- `RET NC` (0xD0): R349. -/
def execRetNc (s : State) : Res State := retIf .nc s
/-- `JP NC,a16` (0xD2): R343. -/
def execJpNcA16 (addr : Word) (s : State) : Res State := jumpIf .nc addr s
/-- `CALL NC,a16` (0xD4): R346. -/
def execCallNcA16 (addr : Word) (s : State) : Res State := callIf .nc addr s
/-- `RST 0x10` (0xD7): R350. -/
def execRst10 (s : State) : Res State := restart 2 s
/-- `RET C` (0xD8): R349. -/
def execRetC (s : State) : Res State := retIf .c s
/-- `RETI` (0xD9): R348. -/
def execReti (s : State) : Res State := reti s
/-- `JP C,a16` (0xDA): R343. -/
def execJpCA16 (addr : Word) (s : State) : Res State := jumpIf .c addr s
/-- `CALL C,a16` (0xDC): R346. -/
def execCallCA16 (addr : Word) (s : State) : Res State := callIf .c addr s
/-- `RST 0x18` (0xDF): R350. -/
def execRst18 (s : State) : Res State := restart 3 s
/-- `RST 0x20` (0xE7): R350. -/
def execRst20 (s : State) : Res State := restart 4 s
/-- `JP HL` (0xE9): R344. -/
def execJpHl (s : State) : Res State := jumpHl s
/-- `RST 0x28` (0xEF): R350. -/
def execRst28 (s : State) : Res State := restart 5 s
/-- `RST 0x30` (0xF7): R350. -/
def execRst30 (s : State) : Res State := restart 6 s
/-- `RST 0x38` (0xFF): R350. -/
def execRst38 (s : State) : Res State := restart 7 s

end Sys2Proof.Machine
end

