-- ==== Sys2Proof/Machine/Loads16.lean ====
section
/-! DEFINITION. 16-bit loads and stack operations (42_loads16_stack.md R250 to R256). -/

namespace Sys2Proof.Machine

/-- `x[rp[p]] <- n16` (R250). -/
def ldPair (p : Pair) (nn : Word) (s : State) : Res State := .next (s.setPair p nn)

/-- SP to two consecutive addresses, low byte first (R251). -/
def storeSp (address : Word) (s : State) : Res State :=
  reading [.sp] 3 s <| andThen (memWrite address (lowByte s.sp) s) fun s1 =>
    memWrite (address + 1) (highByte s.sp) s1

/-- `x[SP] <- x[HL]` (R252). -/
def ldSpHl (s : State) : Res State := reading (pairReads .hl) 1 s (.next (s.setSp s.hl))

/-- `x[HL] <- SP + e8` with its flags; SP is kept (R253). -/
def ldHlSpE8 (e : Byte) (s : State) : Res State :=
  reading [.sp] 2 s (.next ((s.setHl (s.sp + displacement e)).setFlags (spOffsetFlags s.sp e)))

/-- `Push16(x[rp2[p]])` (R254). -/
def pushPair (p : StackPair) (s : State) : Res State :=
  reading (stackPairReads p ++ [.sp]) 1 s (push16 (s.getStackPair p) s)

/-- `x[rp2[p]] <- Pop16()` (R255, R256). -/
def popPair (p : StackPair) (s : State) : Res State :=
  reading [.sp] 1 s (andThen (pop16 s) fun (v, s1) => .next (s1.setStackPair p v))

/-- `LD BC,n16` (0x01): R250. -/
def execLdBcN16 (nn : Word) (s : State) : Res State := ldPair .bc nn s
/-- `LD (a16),SP` (0x08): R251. -/
def execLdAtA16Sp (addr : Word) (s : State) : Res State := storeSp addr s
/-- `LD DE,n16` (0x11): R250. -/
def execLdDeN16 (nn : Word) (s : State) : Res State := ldPair .de nn s
/-- `LD HL,n16` (0x21): R250. -/
def execLdHlN16 (nn : Word) (s : State) : Res State := ldPair .hl nn s
/-- `LD SP,n16` (0x31): R250. -/
def execLdSpN16 (nn : Word) (s : State) : Res State := ldPair .sp nn s
/-- `POP BC` (0xC1): R255. -/
def execPopBc (s : State) : Res State := popPair .bc s
/-- `PUSH BC` (0xC5): R254. -/
def execPushBc (s : State) : Res State := pushPair .bc s
/-- `POP DE` (0xD1): R255. -/
def execPopDe (s : State) : Res State := popPair .de s
/-- `PUSH DE` (0xD5): R254. -/
def execPushDe (s : State) : Res State := pushPair .de s
/-- `POP HL` (0xE1): R255. -/
def execPopHl (s : State) : Res State := popPair .hl s
/-- `PUSH HL` (0xE5): R254. -/
def execPushHl (s : State) : Res State := pushPair .hl s
/-- `POP AF` (0xF1): R256. -/
def execPopAf (s : State) : Res State := popPair .af s
/-- `PUSH AF` (0xF5): R254. -/
def execPushAf (s : State) : Res State := pushPair .af s
/-- `LD HL,SP+e8` (0xF8): R253. -/
def execLdHlSpE8 (e : Byte) (s : State) : Res State := ldHlSpE8 e s
/-- `LD SP,HL` (0xF9): R252. -/
def execLdSpHl (s : State) : Res State := ldSpHl s

end Sys2Proof.Machine
end

