-- ==== Sys2Proof/Machine/Loads8.lean ====
section
/-! DEFINITION. 8-bit loads (41_loads8.md R220 to R238). -/

namespace Sys2Proof.Machine

/-- `r8[d] <- r8[z]`: register, load from HL and store to HL (R220 to R222). -/
def ldR8R8 (d z : R8) (s : State) : Res State :=
  reading (r8AddressReads d ++ r8Reads z) 1 s (andThen (readR8 z s) fun (v, s1) => writeR8 d v s1)

/-- `r8[d] <- n8` (R223, R224). -/
def ldR8N8 (d : R8) (n : Byte) (s : State) : Res State :=
  reading (r8AddressReads d) 2 s (writeR8 d n s)

/-- Store A at an address (R225, R226, R229, R230, R233, R235, R237). -/
def storeA (address : Word) (s : State) : Res State := memWrite address (s.getReg .a) s

/-- Load A from an address (R227, R228, R231, R232, R234, R236, R238). -/
def loadA (address : Word) (s : State) : Res State :=
  andThen (memRead address s) fun (v, s1) => .next (s1.setReg .a v)

/-- The address of an accumulator access through a pair (R225 to R232). -/
def State.indAddress (s : State) : IndAddr → Word
  | .bc => s.bc
  | .de => s.de
  | .hlInc => s.hl
  | .hlDec => s.hl

/-- The registers that address reads (log 21). -/
def indReads : IndAddr → List RegName
  | .bc => [.reg .b, .reg .c]
  | .de => [.reg .d, .reg .e]
  | .hlInc => [.reg .h, .reg .l]
  | .hlDec => [.reg .h, .reg .l]

/-- HL after that access (R229 to R232). -/
def State.afterInd (s : State) : IndAddr → State
  | .bc => s
  | .de => s
  | .hlInc => s.setHl (s.hl + 1)
  | .hlDec => s.setHl (s.hl - 1)

/-- Store A through a pair, then step HL if the form does (R225, R226, R229, R230). -/
def storeAInd (p : IndAddr) (s : State) : Res State :=
  reading (indReads p ++ [.reg .a]) 1 s <|
    andThen (storeA (s.indAddress p) s) fun s1 => .next (s1.afterInd p)

/-- Load A through a pair, then step HL if the form does (R227, R228, R231, R232). -/
def loadAInd (p : IndAddr) (s : State) : Res State :=
  reading (indReads p) 1 s <|
    andThen (loadA (s.indAddress p) s) fun s1 => .next (s1.afterInd p)

/-- LDH (a8),A (R233). -/
def storeAPage (n : Byte) (s : State) : Res State :=
  reading [.reg .a] 2 s (storeA (highAddress n) s)

/-- LDH A,(a8) (R234). -/
def loadAPage (n : Byte) (s : State) : Res State := loadA (highAddress n) s

/-- LD (C),A (R235). -/
def storeAPageC (s : State) : Res State :=
  reading [.reg .c, .reg .a] 1 s (storeA (highAddress (s.getReg .c)) s)

/-- LD A,(C) (R236). -/
def loadAPageC (s : State) : Res State :=
  reading [.reg .c] 1 s (loadA (highAddress (s.getReg .c)) s)

/-- LD (a16),A (R237). -/
def storeAAbsolute (address : Word) (s : State) : Res State :=
  reading [.reg .a] 3 s (storeA address s)

/-- LD A,(a16) (R238). -/
def loadAAbsolute (address : Word) (s : State) : Res State := loadA address s

/-- `LD (BC),A` (0x02): R225. -/
def execLdAtBcA (s : State) : Res State := storeAInd .bc s
/-- `LD B,n8` (0x06): R223. -/
def execLdBN8 (n : Byte) (s : State) : Res State := ldR8N8 (.reg .b) n s
/-- `LD A,(BC)` (0x0A): R227. -/
def execLdAAtBc (s : State) : Res State := loadAInd .bc s
/-- `LD C,n8` (0x0E): R223. -/
def execLdCN8 (n : Byte) (s : State) : Res State := ldR8N8 (.reg .c) n s
/-- `LD (DE),A` (0x12): R226. -/
def execLdAtDeA (s : State) : Res State := storeAInd .de s
/-- `LD D,n8` (0x16): R223. -/
def execLdDN8 (n : Byte) (s : State) : Res State := ldR8N8 (.reg .d) n s
/-- `LD A,(DE)` (0x1A): R228. -/
def execLdAAtDe (s : State) : Res State := loadAInd .de s
/-- `LD E,n8` (0x1E): R223. -/
def execLdEN8 (n : Byte) (s : State) : Res State := ldR8N8 (.reg .e) n s
/-- `LD (HL+),A` (0x22): R229. -/
def execLdAtHlIncA (s : State) : Res State := storeAInd .hlInc s
/-- `LD H,n8` (0x26): R223. -/
def execLdHN8 (n : Byte) (s : State) : Res State := ldR8N8 (.reg .h) n s
/-- `LD A,(HL+)` (0x2A): R231. -/
def execLdAAtHlInc (s : State) : Res State := loadAInd .hlInc s
/-- `LD L,n8` (0x2E): R223. -/
def execLdLN8 (n : Byte) (s : State) : Res State := ldR8N8 (.reg .l) n s
/-- `LD (HL-),A` (0x32): R230. -/
def execLdAtHlDecA (s : State) : Res State := storeAInd .hlDec s
/-- `LD (HL),n8` (0x36): R224. -/
def execLdAtHlN8 (n : Byte) (s : State) : Res State := ldR8N8 .atHl n s
/-- `LD A,(HL-)` (0x3A): R232. -/
def execLdAAtHlDec (s : State) : Res State := loadAInd .hlDec s
/-- `LD A,n8` (0x3E): R223. -/
def execLdAN8 (n : Byte) (s : State) : Res State := ldR8N8 (.reg .a) n s
/-- `LD B,B` (0x40): R220. -/
def execLdBB (s : State) : Res State := ldR8R8 (.reg .b) (.reg .b) s
/-- `LD B,C` (0x41): R220. -/
def execLdBC (s : State) : Res State := ldR8R8 (.reg .b) (.reg .c) s
/-- `LD B,D` (0x42): R220. -/
def execLdBD (s : State) : Res State := ldR8R8 (.reg .b) (.reg .d) s
/-- `LD B,E` (0x43): R220. -/
def execLdBE (s : State) : Res State := ldR8R8 (.reg .b) (.reg .e) s
/-- `LD B,H` (0x44): R220. -/
def execLdBH (s : State) : Res State := ldR8R8 (.reg .b) (.reg .h) s
/-- `LD B,L` (0x45): R220. -/
def execLdBL (s : State) : Res State := ldR8R8 (.reg .b) (.reg .l) s
/-- `LD B,(HL)` (0x46): R221. -/
def execLdBAtHl (s : State) : Res State := ldR8R8 (.reg .b) .atHl s
/-- `LD B,A` (0x47): R220. -/
def execLdBA (s : State) : Res State := ldR8R8 (.reg .b) (.reg .a) s
/-- `LD C,B` (0x48): R220. -/
def execLdCB (s : State) : Res State := ldR8R8 (.reg .c) (.reg .b) s
/-- `LD C,C` (0x49): R220. -/
def execLdCC (s : State) : Res State := ldR8R8 (.reg .c) (.reg .c) s
/-- `LD C,D` (0x4A): R220. -/
def execLdCD (s : State) : Res State := ldR8R8 (.reg .c) (.reg .d) s
/-- `LD C,E` (0x4B): R220. -/
def execLdCE (s : State) : Res State := ldR8R8 (.reg .c) (.reg .e) s
/-- `LD C,H` (0x4C): R220. -/
def execLdCH (s : State) : Res State := ldR8R8 (.reg .c) (.reg .h) s
/-- `LD C,L` (0x4D): R220. -/
def execLdCL (s : State) : Res State := ldR8R8 (.reg .c) (.reg .l) s
/-- `LD C,(HL)` (0x4E): R221. -/
def execLdCAtHl (s : State) : Res State := ldR8R8 (.reg .c) .atHl s
/-- `LD C,A` (0x4F): R220. -/
def execLdCA (s : State) : Res State := ldR8R8 (.reg .c) (.reg .a) s
/-- `LD D,B` (0x50): R220. -/
def execLdDB (s : State) : Res State := ldR8R8 (.reg .d) (.reg .b) s
/-- `LD D,C` (0x51): R220. -/
def execLdDC (s : State) : Res State := ldR8R8 (.reg .d) (.reg .c) s
/-- `LD D,D` (0x52): R220. -/
def execLdDD (s : State) : Res State := ldR8R8 (.reg .d) (.reg .d) s
/-- `LD D,E` (0x53): R220. -/
def execLdDE (s : State) : Res State := ldR8R8 (.reg .d) (.reg .e) s
/-- `LD D,H` (0x54): R220. -/
def execLdDH (s : State) : Res State := ldR8R8 (.reg .d) (.reg .h) s
/-- `LD D,L` (0x55): R220. -/
def execLdDL (s : State) : Res State := ldR8R8 (.reg .d) (.reg .l) s
/-- `LD D,(HL)` (0x56): R221. -/
def execLdDAtHl (s : State) : Res State := ldR8R8 (.reg .d) .atHl s
/-- `LD D,A` (0x57): R220. -/
def execLdDA (s : State) : Res State := ldR8R8 (.reg .d) (.reg .a) s
/-- `LD E,B` (0x58): R220. -/
def execLdEB (s : State) : Res State := ldR8R8 (.reg .e) (.reg .b) s
/-- `LD E,C` (0x59): R220. -/
def execLdEC (s : State) : Res State := ldR8R8 (.reg .e) (.reg .c) s
/-- `LD E,D` (0x5A): R220. -/
def execLdED (s : State) : Res State := ldR8R8 (.reg .e) (.reg .d) s
/-- `LD E,E` (0x5B): R220. -/
def execLdEE (s : State) : Res State := ldR8R8 (.reg .e) (.reg .e) s
/-- `LD E,H` (0x5C): R220. -/
def execLdEH (s : State) : Res State := ldR8R8 (.reg .e) (.reg .h) s
/-- `LD E,L` (0x5D): R220. -/
def execLdEL (s : State) : Res State := ldR8R8 (.reg .e) (.reg .l) s
/-- `LD E,(HL)` (0x5E): R221. -/
def execLdEAtHl (s : State) : Res State := ldR8R8 (.reg .e) .atHl s
/-- `LD E,A` (0x5F): R220. -/
def execLdEA (s : State) : Res State := ldR8R8 (.reg .e) (.reg .a) s
/-- `LD H,B` (0x60): R220. -/
def execLdHB (s : State) : Res State := ldR8R8 (.reg .h) (.reg .b) s
/-- `LD H,C` (0x61): R220. -/
def execLdHC (s : State) : Res State := ldR8R8 (.reg .h) (.reg .c) s
/-- `LD H,D` (0x62): R220. -/
def execLdHD (s : State) : Res State := ldR8R8 (.reg .h) (.reg .d) s
/-- `LD H,E` (0x63): R220. -/
def execLdHE (s : State) : Res State := ldR8R8 (.reg .h) (.reg .e) s
/-- `LD H,H` (0x64): R220. -/
def execLdHH (s : State) : Res State := ldR8R8 (.reg .h) (.reg .h) s
/-- `LD H,L` (0x65): R220. -/
def execLdHL (s : State) : Res State := ldR8R8 (.reg .h) (.reg .l) s
/-- `LD H,(HL)` (0x66): R221. -/
def execLdHAtHl (s : State) : Res State := ldR8R8 (.reg .h) .atHl s
/-- `LD H,A` (0x67): R220. -/
def execLdHA (s : State) : Res State := ldR8R8 (.reg .h) (.reg .a) s
/-- `LD L,B` (0x68): R220. -/
def execLdLB (s : State) : Res State := ldR8R8 (.reg .l) (.reg .b) s
/-- `LD L,C` (0x69): R220. -/
def execLdLC (s : State) : Res State := ldR8R8 (.reg .l) (.reg .c) s
/-- `LD L,D` (0x6A): R220. -/
def execLdLD (s : State) : Res State := ldR8R8 (.reg .l) (.reg .d) s
/-- `LD L,E` (0x6B): R220. -/
def execLdLE (s : State) : Res State := ldR8R8 (.reg .l) (.reg .e) s
/-- `LD L,H` (0x6C): R220. -/
def execLdLH (s : State) : Res State := ldR8R8 (.reg .l) (.reg .h) s
/-- `LD L,L` (0x6D): R220. -/
def execLdLL (s : State) : Res State := ldR8R8 (.reg .l) (.reg .l) s
/-- `LD L,(HL)` (0x6E): R221. -/
def execLdLAtHl (s : State) : Res State := ldR8R8 (.reg .l) .atHl s
/-- `LD L,A` (0x6F): R220. -/
def execLdLA (s : State) : Res State := ldR8R8 (.reg .l) (.reg .a) s
/-- `LD (HL),B` (0x70): R222. -/
def execLdAtHlB (s : State) : Res State := ldR8R8 .atHl (.reg .b) s
/-- `LD (HL),C` (0x71): R222. -/
def execLdAtHlC (s : State) : Res State := ldR8R8 .atHl (.reg .c) s
/-- `LD (HL),D` (0x72): R222. -/
def execLdAtHlD (s : State) : Res State := ldR8R8 .atHl (.reg .d) s
/-- `LD (HL),E` (0x73): R222. -/
def execLdAtHlE (s : State) : Res State := ldR8R8 .atHl (.reg .e) s
/-- `LD (HL),H` (0x74): R222. -/
def execLdAtHlH (s : State) : Res State := ldR8R8 .atHl (.reg .h) s
/-- `LD (HL),L` (0x75): R222. -/
def execLdAtHlL (s : State) : Res State := ldR8R8 .atHl (.reg .l) s
/-- `LD (HL),A` (0x77): R222. -/
def execLdAtHlA (s : State) : Res State := ldR8R8 .atHl (.reg .a) s
/-- `LD A,B` (0x78): R220. -/
def execLdAB (s : State) : Res State := ldR8R8 (.reg .a) (.reg .b) s
/-- `LD A,C` (0x79): R220. -/
def execLdAC (s : State) : Res State := ldR8R8 (.reg .a) (.reg .c) s
/-- `LD A,D` (0x7A): R220. -/
def execLdAD (s : State) : Res State := ldR8R8 (.reg .a) (.reg .d) s
/-- `LD A,E` (0x7B): R220. -/
def execLdAE (s : State) : Res State := ldR8R8 (.reg .a) (.reg .e) s
/-- `LD A,H` (0x7C): R220. -/
def execLdAH (s : State) : Res State := ldR8R8 (.reg .a) (.reg .h) s
/-- `LD A,L` (0x7D): R220. -/
def execLdAL (s : State) : Res State := ldR8R8 (.reg .a) (.reg .l) s
/-- `LD A,(HL)` (0x7E): R221. -/
def execLdAAtHl (s : State) : Res State := ldR8R8 (.reg .a) .atHl s
/-- `LD A,A` (0x7F): R220. -/
def execLdAA (s : State) : Res State := ldR8R8 (.reg .a) (.reg .a) s
/-- `LDH (a8),A` (0xE0): R233. -/
def execLdhAtA8A (off : Byte) (s : State) : Res State := storeAPage off s
/-- `LD (C),A` (0xE2): R235. -/
def execLdAtCA (s : State) : Res State := storeAPageC s
/-- `LD (a16),A` (0xEA): R237. -/
def execLdAtA16A (addr : Word) (s : State) : Res State := storeAAbsolute addr s
/-- `LDH A,(a8)` (0xF0): R234. -/
def execLdhAAtA8 (off : Byte) (s : State) : Res State := loadAPage off s
/-- `LD A,(C)` (0xF2): R236. -/
def execLdAAtC (s : State) : Res State := loadAPageC s
/-- `LD A,(a16)` (0xFA): R238. -/
def execLdAAtA16 (addr : Word) (s : State) : Res State := loadAAbsolute addr s

end Sys2Proof.Machine
end

