-- ==== Sys2Proof/Machine/Rotates.lean ====
section
/-! DEFINITION. Accumulator rotates and the extended table (45_rotate_shift_bit.md R310 to R325), and
the prefix that selects it (40_step_and_system.md R210). -/

namespace Sys2Proof.Machine

/-- RLCA, RRCA, RLA, RRA: the rotate of A with Z cleared (R310 to R313). -/
def rotA (op : RotOp) (s : State) : Res State :=
  let a := s.getReg .a
  reading (.reg .a :: rotCarryReads op) 1 s <|
    .next ((s.setReg .a (rotValue op a s.flags.c)).setFlags (rotAFlags op a))

/-- `rot[y] r8[z]`: one read, then one write of the same operand; rows 0x10-0x1F as
`CB_ROW1_AS_RLC` says (R314 to R322). -/
def rotR8 (row : RotOp) (r : R8) (s : State) : Res State :=
  let op := rotEffective s.config.cbRow1AsRlc row
  reading (r8Reads r) 2 s <| andThen (readR8 r s) fun (v, s1) =>
    reading (rotCarryReads op) 2 s1 <|
      andThen (writeR8 r (rotValue op v s.flags.c) s1) fun s2 =>
        .next (s2.setFlags (rotFlags op v s.flags.c))

/-- `BIT b,r8[z]`: only reads (R323). -/
def bitR8 (b : Nat) (r : R8) (s : State) : Res State :=
  reading (r8Reads r) 2 s <|
    andThen (readR8 r s) fun (v, s1) => .next (s1.writeFlags (bitFlags v b))

/-- `RES b,r8[z]`: always writes (R324). -/
def resR8 (b : Nat) (r : R8) (s : State) : Res State :=
  reading (r8Reads r) 2 s (andThen (readR8 r s) fun (v, s1) => writeR8 r (v &&& ~~~(1#8 <<< b)) s1)

/-- `SET b,r8[z]`: always writes (R325). -/
def setR8 (b : Nat) (r : R8) (s : State) : Res State :=
  reading (r8Reads r) 2 s (andThen (readR8 r s) fun (v, s1) => writeR8 r (v ||| (1#8 <<< b)) s1)

/-- The rule that the fields of an extended byte select (30_encoding.md R135). -/
def extendedRule (cbop : Byte) (s : State) : Res State :=
  let y := fieldY cbop
  let r := r8OfCode (fieldZ cbop)
  match fieldX cbop with
  | 0 => rotR8 (rotOfCode y) r s
  | 1 => bitR8 y r s
  | 2 => resR8 y r s
  | _ => setR8 y r s

/-- PREFIX CB: fetch the extended byte and run the rule it selects (40_step_and_system.md R210,
log 12). -/
def prefixExtended (s : State) : Res State :=
  andThen (fetchImm8 s) fun (cbop, s1) => extendedRule cbop s1

/-- `RLCA` (0x07): R310. -/
def execRlca (s : State) : Res State := rotA .rlc s
/-- `RRCA` (0x0F): R311. -/
def execRrca (s : State) : Res State := rotA .rrc s
/-- `RLA` (0x17): R312. -/
def execRla (s : State) : Res State := rotA .rl s
/-- `RRA` (0x1F): R313. -/
def execRra (s : State) : Res State := rotA .rr s
/-- `PREFIX CB` (0xCB): R210. -/
def execPrefixCb (s : State) : Res State := prefixExtended s
/-- `RLC B` (0xCB 0x00): R315. -/
def execRlcB (s : State) : Res State := rotR8 .rlc (.reg .b) s
/-- `RLC C` (0xCB 0x01): R315. -/
def execRlcC (s : State) : Res State := rotR8 .rlc (.reg .c) s
/-- `RLC D` (0xCB 0x02): R315. -/
def execRlcD (s : State) : Res State := rotR8 .rlc (.reg .d) s
/-- `RLC E` (0xCB 0x03): R315. -/
def execRlcE (s : State) : Res State := rotR8 .rlc (.reg .e) s
/-- `RLC H` (0xCB 0x04): R315. -/
def execRlcH (s : State) : Res State := rotR8 .rlc (.reg .h) s
/-- `RLC L` (0xCB 0x05): R315. -/
def execRlcL (s : State) : Res State := rotR8 .rlc (.reg .l) s
/-- `RLC (HL)` (0xCB 0x06): R315. -/
def execRlcAtHl (s : State) : Res State := rotR8 .rlc .atHl s
/-- `RLC A` (0xCB 0x07): R315. -/
def execRlcA (s : State) : Res State := rotR8 .rlc (.reg .a) s
/-- `RRC B` (0xCB 0x08): R316. -/
def execRrcB (s : State) : Res State := rotR8 .rrc (.reg .b) s
/-- `RRC C` (0xCB 0x09): R316. -/
def execRrcC (s : State) : Res State := rotR8 .rrc (.reg .c) s
/-- `RRC D` (0xCB 0x0A): R316. -/
def execRrcD (s : State) : Res State := rotR8 .rrc (.reg .d) s
/-- `RRC E` (0xCB 0x0B): R316. -/
def execRrcE (s : State) : Res State := rotR8 .rrc (.reg .e) s
/-- `RRC H` (0xCB 0x0C): R316. -/
def execRrcH (s : State) : Res State := rotR8 .rrc (.reg .h) s
/-- `RRC L` (0xCB 0x0D): R316. -/
def execRrcL (s : State) : Res State := rotR8 .rrc (.reg .l) s
/-- `RRC (HL)` (0xCB 0x0E): R316. -/
def execRrcAtHl (s : State) : Res State := rotR8 .rrc .atHl s
/-- `RRC A` (0xCB 0x0F): R316. -/
def execRrcA (s : State) : Res State := rotR8 .rrc (.reg .a) s
/-- `RL B` (0xCB 0x10): R317. -/
def execRlB (s : State) : Res State := rotR8 .rl (.reg .b) s
/-- `RL C` (0xCB 0x11): R317. -/
def execRlC (s : State) : Res State := rotR8 .rl (.reg .c) s
/-- `RL D` (0xCB 0x12): R317. -/
def execRlD (s : State) : Res State := rotR8 .rl (.reg .d) s
/-- `RL E` (0xCB 0x13): R317. -/
def execRlE (s : State) : Res State := rotR8 .rl (.reg .e) s
/-- `RL H` (0xCB 0x14): R317. -/
def execRlH (s : State) : Res State := rotR8 .rl (.reg .h) s
/-- `RL L` (0xCB 0x15): R317. -/
def execRlL (s : State) : Res State := rotR8 .rl (.reg .l) s
/-- `RL (HL)` (0xCB 0x16): R317. -/
def execRlAtHl (s : State) : Res State := rotR8 .rl .atHl s
/-- `RL A` (0xCB 0x17): R317. -/
def execRlA (s : State) : Res State := rotR8 .rl (.reg .a) s
/-- `RR B` (0xCB 0x18): R318. -/
def execRrB (s : State) : Res State := rotR8 .rr (.reg .b) s
/-- `RR C` (0xCB 0x19): R318. -/
def execRrC (s : State) : Res State := rotR8 .rr (.reg .c) s
/-- `RR D` (0xCB 0x1A): R318. -/
def execRrD (s : State) : Res State := rotR8 .rr (.reg .d) s
/-- `RR E` (0xCB 0x1B): R318. -/
def execRrE (s : State) : Res State := rotR8 .rr (.reg .e) s
/-- `RR H` (0xCB 0x1C): R318. -/
def execRrH (s : State) : Res State := rotR8 .rr (.reg .h) s
/-- `RR L` (0xCB 0x1D): R318. -/
def execRrL (s : State) : Res State := rotR8 .rr (.reg .l) s
/-- `RR (HL)` (0xCB 0x1E): R318. -/
def execRrAtHl (s : State) : Res State := rotR8 .rr .atHl s
/-- `RR A` (0xCB 0x1F): R318. -/
def execRrA (s : State) : Res State := rotR8 .rr (.reg .a) s
/-- `SLA B` (0xCB 0x20): R319. -/
def execSlaB (s : State) : Res State := rotR8 .sla (.reg .b) s
/-- `SLA C` (0xCB 0x21): R319. -/
def execSlaC (s : State) : Res State := rotR8 .sla (.reg .c) s
/-- `SLA D` (0xCB 0x22): R319. -/
def execSlaD (s : State) : Res State := rotR8 .sla (.reg .d) s
/-- `SLA E` (0xCB 0x23): R319. -/
def execSlaE (s : State) : Res State := rotR8 .sla (.reg .e) s
/-- `SLA H` (0xCB 0x24): R319. -/
def execSlaH (s : State) : Res State := rotR8 .sla (.reg .h) s
/-- `SLA L` (0xCB 0x25): R319. -/
def execSlaL (s : State) : Res State := rotR8 .sla (.reg .l) s
/-- `SLA (HL)` (0xCB 0x26): R319. -/
def execSlaAtHl (s : State) : Res State := rotR8 .sla .atHl s
/-- `SLA A` (0xCB 0x27): R319. -/
def execSlaA (s : State) : Res State := rotR8 .sla (.reg .a) s
/-- `SRA B` (0xCB 0x28): R320. -/
def execSraB (s : State) : Res State := rotR8 .sra (.reg .b) s
/-- `SRA C` (0xCB 0x29): R320. -/
def execSraC (s : State) : Res State := rotR8 .sra (.reg .c) s
/-- `SRA D` (0xCB 0x2A): R320. -/
def execSraD (s : State) : Res State := rotR8 .sra (.reg .d) s
/-- `SRA E` (0xCB 0x2B): R320. -/
def execSraE (s : State) : Res State := rotR8 .sra (.reg .e) s
/-- `SRA H` (0xCB 0x2C): R320. -/
def execSraH (s : State) : Res State := rotR8 .sra (.reg .h) s
/-- `SRA L` (0xCB 0x2D): R320. -/
def execSraL (s : State) : Res State := rotR8 .sra (.reg .l) s
/-- `SRA (HL)` (0xCB 0x2E): R320. -/
def execSraAtHl (s : State) : Res State := rotR8 .sra .atHl s
/-- `SRA A` (0xCB 0x2F): R320. -/
def execSraA (s : State) : Res State := rotR8 .sra (.reg .a) s
/-- `SWAP B` (0xCB 0x30): R321. -/
def execSwapB (s : State) : Res State := rotR8 .swap (.reg .b) s
/-- `SWAP C` (0xCB 0x31): R321. -/
def execSwapC (s : State) : Res State := rotR8 .swap (.reg .c) s
/-- `SWAP D` (0xCB 0x32): R321. -/
def execSwapD (s : State) : Res State := rotR8 .swap (.reg .d) s
/-- `SWAP E` (0xCB 0x33): R321. -/
def execSwapE (s : State) : Res State := rotR8 .swap (.reg .e) s
/-- `SWAP H` (0xCB 0x34): R321. -/
def execSwapH (s : State) : Res State := rotR8 .swap (.reg .h) s
/-- `SWAP L` (0xCB 0x35): R321. -/
def execSwapL (s : State) : Res State := rotR8 .swap (.reg .l) s
/-- `SWAP (HL)` (0xCB 0x36): R321. -/
def execSwapAtHl (s : State) : Res State := rotR8 .swap .atHl s
/-- `SWAP A` (0xCB 0x37): R321. -/
def execSwapA (s : State) : Res State := rotR8 .swap (.reg .a) s
/-- `SRL B` (0xCB 0x38): R322. -/
def execSrlB (s : State) : Res State := rotR8 .srl (.reg .b) s
/-- `SRL C` (0xCB 0x39): R322. -/
def execSrlC (s : State) : Res State := rotR8 .srl (.reg .c) s
/-- `SRL D` (0xCB 0x3A): R322. -/
def execSrlD (s : State) : Res State := rotR8 .srl (.reg .d) s
/-- `SRL E` (0xCB 0x3B): R322. -/
def execSrlE (s : State) : Res State := rotR8 .srl (.reg .e) s
/-- `SRL H` (0xCB 0x3C): R322. -/
def execSrlH (s : State) : Res State := rotR8 .srl (.reg .h) s
/-- `SRL L` (0xCB 0x3D): R322. -/
def execSrlL (s : State) : Res State := rotR8 .srl (.reg .l) s
/-- `SRL (HL)` (0xCB 0x3E): R322. -/
def execSrlAtHl (s : State) : Res State := rotR8 .srl .atHl s
/-- `SRL A` (0xCB 0x3F): R322. -/
def execSrlA (s : State) : Res State := rotR8 .srl (.reg .a) s
/-- `BIT 0,B` (0xCB 0x40): R323. -/
def execBit0B (s : State) : Res State := bitR8 0 (.reg .b) s
/-- `BIT 0,C` (0xCB 0x41): R323. -/
def execBit0C (s : State) : Res State := bitR8 0 (.reg .c) s
/-- `BIT 0,D` (0xCB 0x42): R323. -/
def execBit0D (s : State) : Res State := bitR8 0 (.reg .d) s
/-- `BIT 0,E` (0xCB 0x43): R323. -/
def execBit0E (s : State) : Res State := bitR8 0 (.reg .e) s
/-- `BIT 0,H` (0xCB 0x44): R323. -/
def execBit0H (s : State) : Res State := bitR8 0 (.reg .h) s
/-- `BIT 0,L` (0xCB 0x45): R323. -/
def execBit0L (s : State) : Res State := bitR8 0 (.reg .l) s
/-- `BIT 0,(HL)` (0xCB 0x46): R323. -/
def execBit0AtHl (s : State) : Res State := bitR8 0 .atHl s
/-- `BIT 0,A` (0xCB 0x47): R323. -/
def execBit0A (s : State) : Res State := bitR8 0 (.reg .a) s
/-- `BIT 1,B` (0xCB 0x48): R323. -/
def execBit1B (s : State) : Res State := bitR8 1 (.reg .b) s
/-- `BIT 1,C` (0xCB 0x49): R323. -/
def execBit1C (s : State) : Res State := bitR8 1 (.reg .c) s
/-- `BIT 1,D` (0xCB 0x4A): R323. -/
def execBit1D (s : State) : Res State := bitR8 1 (.reg .d) s
/-- `BIT 1,E` (0xCB 0x4B): R323. -/
def execBit1E (s : State) : Res State := bitR8 1 (.reg .e) s
/-- `BIT 1,H` (0xCB 0x4C): R323. -/
def execBit1H (s : State) : Res State := bitR8 1 (.reg .h) s
/-- `BIT 1,L` (0xCB 0x4D): R323. -/
def execBit1L (s : State) : Res State := bitR8 1 (.reg .l) s
/-- `BIT 1,(HL)` (0xCB 0x4E): R323. -/
def execBit1AtHl (s : State) : Res State := bitR8 1 .atHl s
/-- `BIT 1,A` (0xCB 0x4F): R323. -/
def execBit1A (s : State) : Res State := bitR8 1 (.reg .a) s
/-- `BIT 2,B` (0xCB 0x50): R323. -/
def execBit2B (s : State) : Res State := bitR8 2 (.reg .b) s
/-- `BIT 2,C` (0xCB 0x51): R323. -/
def execBit2C (s : State) : Res State := bitR8 2 (.reg .c) s
/-- `BIT 2,D` (0xCB 0x52): R323. -/
def execBit2D (s : State) : Res State := bitR8 2 (.reg .d) s
/-- `BIT 2,E` (0xCB 0x53): R323. -/
def execBit2E (s : State) : Res State := bitR8 2 (.reg .e) s
/-- `BIT 2,H` (0xCB 0x54): R323. -/
def execBit2H (s : State) : Res State := bitR8 2 (.reg .h) s
/-- `BIT 2,L` (0xCB 0x55): R323. -/
def execBit2L (s : State) : Res State := bitR8 2 (.reg .l) s
/-- `BIT 2,(HL)` (0xCB 0x56): R323. -/
def execBit2AtHl (s : State) : Res State := bitR8 2 .atHl s
/-- `BIT 2,A` (0xCB 0x57): R323. -/
def execBit2A (s : State) : Res State := bitR8 2 (.reg .a) s
/-- `BIT 3,B` (0xCB 0x58): R323. -/
def execBit3B (s : State) : Res State := bitR8 3 (.reg .b) s
/-- `BIT 3,C` (0xCB 0x59): R323. -/
def execBit3C (s : State) : Res State := bitR8 3 (.reg .c) s
/-- `BIT 3,D` (0xCB 0x5A): R323. -/
def execBit3D (s : State) : Res State := bitR8 3 (.reg .d) s
/-- `BIT 3,E` (0xCB 0x5B): R323. -/
def execBit3E (s : State) : Res State := bitR8 3 (.reg .e) s
/-- `BIT 3,H` (0xCB 0x5C): R323. -/
def execBit3H (s : State) : Res State := bitR8 3 (.reg .h) s
/-- `BIT 3,L` (0xCB 0x5D): R323. -/
def execBit3L (s : State) : Res State := bitR8 3 (.reg .l) s
/-- `BIT 3,(HL)` (0xCB 0x5E): R323. -/
def execBit3AtHl (s : State) : Res State := bitR8 3 .atHl s
/-- `BIT 3,A` (0xCB 0x5F): R323. -/
def execBit3A (s : State) : Res State := bitR8 3 (.reg .a) s
/-- `BIT 4,B` (0xCB 0x60): R323. -/
def execBit4B (s : State) : Res State := bitR8 4 (.reg .b) s
/-- `BIT 4,C` (0xCB 0x61): R323. -/
def execBit4C (s : State) : Res State := bitR8 4 (.reg .c) s
/-- `BIT 4,D` (0xCB 0x62): R323. -/
def execBit4D (s : State) : Res State := bitR8 4 (.reg .d) s
/-- `BIT 4,E` (0xCB 0x63): R323. -/
def execBit4E (s : State) : Res State := bitR8 4 (.reg .e) s
/-- `BIT 4,H` (0xCB 0x64): R323. -/
def execBit4H (s : State) : Res State := bitR8 4 (.reg .h) s
/-- `BIT 4,L` (0xCB 0x65): R323. -/
def execBit4L (s : State) : Res State := bitR8 4 (.reg .l) s
/-- `BIT 4,(HL)` (0xCB 0x66): R323. -/
def execBit4AtHl (s : State) : Res State := bitR8 4 .atHl s
/-- `BIT 4,A` (0xCB 0x67): R323. -/
def execBit4A (s : State) : Res State := bitR8 4 (.reg .a) s
/-- `BIT 5,B` (0xCB 0x68): R323. -/
def execBit5B (s : State) : Res State := bitR8 5 (.reg .b) s
/-- `BIT 5,C` (0xCB 0x69): R323. -/
def execBit5C (s : State) : Res State := bitR8 5 (.reg .c) s
/-- `BIT 5,D` (0xCB 0x6A): R323. -/
def execBit5D (s : State) : Res State := bitR8 5 (.reg .d) s
/-- `BIT 5,E` (0xCB 0x6B): R323. -/
def execBit5E (s : State) : Res State := bitR8 5 (.reg .e) s
/-- `BIT 5,H` (0xCB 0x6C): R323. -/
def execBit5H (s : State) : Res State := bitR8 5 (.reg .h) s
/-- `BIT 5,L` (0xCB 0x6D): R323. -/
def execBit5L (s : State) : Res State := bitR8 5 (.reg .l) s
/-- `BIT 5,(HL)` (0xCB 0x6E): R323. -/
def execBit5AtHl (s : State) : Res State := bitR8 5 .atHl s
/-- `BIT 5,A` (0xCB 0x6F): R323. -/
def execBit5A (s : State) : Res State := bitR8 5 (.reg .a) s
/-- `BIT 6,B` (0xCB 0x70): R323. -/
def execBit6B (s : State) : Res State := bitR8 6 (.reg .b) s
/-- `BIT 6,C` (0xCB 0x71): R323. -/
def execBit6C (s : State) : Res State := bitR8 6 (.reg .c) s
/-- `BIT 6,D` (0xCB 0x72): R323. -/
def execBit6D (s : State) : Res State := bitR8 6 (.reg .d) s
/-- `BIT 6,E` (0xCB 0x73): R323. -/
def execBit6E (s : State) : Res State := bitR8 6 (.reg .e) s
/-- `BIT 6,H` (0xCB 0x74): R323. -/
def execBit6H (s : State) : Res State := bitR8 6 (.reg .h) s
/-- `BIT 6,L` (0xCB 0x75): R323. -/
def execBit6L (s : State) : Res State := bitR8 6 (.reg .l) s
/-- `BIT 6,(HL)` (0xCB 0x76): R323. -/
def execBit6AtHl (s : State) : Res State := bitR8 6 .atHl s
/-- `BIT 6,A` (0xCB 0x77): R323. -/
def execBit6A (s : State) : Res State := bitR8 6 (.reg .a) s
/-- `BIT 7,B` (0xCB 0x78): R323. -/
def execBit7B (s : State) : Res State := bitR8 7 (.reg .b) s
/-- `BIT 7,C` (0xCB 0x79): R323. -/
def execBit7C (s : State) : Res State := bitR8 7 (.reg .c) s
/-- `BIT 7,D` (0xCB 0x7A): R323. -/
def execBit7D (s : State) : Res State := bitR8 7 (.reg .d) s
/-- `BIT 7,E` (0xCB 0x7B): R323. -/
def execBit7E (s : State) : Res State := bitR8 7 (.reg .e) s
/-- `BIT 7,H` (0xCB 0x7C): R323. -/
def execBit7H (s : State) : Res State := bitR8 7 (.reg .h) s
/-- `BIT 7,L` (0xCB 0x7D): R323. -/
def execBit7L (s : State) : Res State := bitR8 7 (.reg .l) s
/-- `BIT 7,(HL)` (0xCB 0x7E): R323. -/
def execBit7AtHl (s : State) : Res State := bitR8 7 .atHl s
/-- `BIT 7,A` (0xCB 0x7F): R323. -/
def execBit7A (s : State) : Res State := bitR8 7 (.reg .a) s
/-- `RES 0,B` (0xCB 0x80): R324. -/
def execRes0B (s : State) : Res State := resR8 0 (.reg .b) s
/-- `RES 0,C` (0xCB 0x81): R324. -/
def execRes0C (s : State) : Res State := resR8 0 (.reg .c) s
/-- `RES 0,D` (0xCB 0x82): R324. -/
def execRes0D (s : State) : Res State := resR8 0 (.reg .d) s
/-- `RES 0,E` (0xCB 0x83): R324. -/
def execRes0E (s : State) : Res State := resR8 0 (.reg .e) s
/-- `RES 0,H` (0xCB 0x84): R324. -/
def execRes0H (s : State) : Res State := resR8 0 (.reg .h) s
/-- `RES 0,L` (0xCB 0x85): R324. -/
def execRes0L (s : State) : Res State := resR8 0 (.reg .l) s
/-- `RES 0,(HL)` (0xCB 0x86): R324. -/
def execRes0AtHl (s : State) : Res State := resR8 0 .atHl s
/-- `RES 0,A` (0xCB 0x87): R324. -/
def execRes0A (s : State) : Res State := resR8 0 (.reg .a) s
/-- `RES 1,B` (0xCB 0x88): R324. -/
def execRes1B (s : State) : Res State := resR8 1 (.reg .b) s
/-- `RES 1,C` (0xCB 0x89): R324. -/
def execRes1C (s : State) : Res State := resR8 1 (.reg .c) s
/-- `RES 1,D` (0xCB 0x8A): R324. -/
def execRes1D (s : State) : Res State := resR8 1 (.reg .d) s
/-- `RES 1,E` (0xCB 0x8B): R324. -/
def execRes1E (s : State) : Res State := resR8 1 (.reg .e) s
/-- `RES 1,H` (0xCB 0x8C): R324. -/
def execRes1H (s : State) : Res State := resR8 1 (.reg .h) s
/-- `RES 1,L` (0xCB 0x8D): R324. -/
def execRes1L (s : State) : Res State := resR8 1 (.reg .l) s
/-- `RES 1,(HL)` (0xCB 0x8E): R324. -/
def execRes1AtHl (s : State) : Res State := resR8 1 .atHl s
/-- `RES 1,A` (0xCB 0x8F): R324. -/
def execRes1A (s : State) : Res State := resR8 1 (.reg .a) s
/-- `RES 2,B` (0xCB 0x90): R324. -/
def execRes2B (s : State) : Res State := resR8 2 (.reg .b) s
/-- `RES 2,C` (0xCB 0x91): R324. -/
def execRes2C (s : State) : Res State := resR8 2 (.reg .c) s
/-- `RES 2,D` (0xCB 0x92): R324. -/
def execRes2D (s : State) : Res State := resR8 2 (.reg .d) s
/-- `RES 2,E` (0xCB 0x93): R324. -/
def execRes2E (s : State) : Res State := resR8 2 (.reg .e) s
/-- `RES 2,H` (0xCB 0x94): R324. -/
def execRes2H (s : State) : Res State := resR8 2 (.reg .h) s
/-- `RES 2,L` (0xCB 0x95): R324. -/
def execRes2L (s : State) : Res State := resR8 2 (.reg .l) s
/-- `RES 2,(HL)` (0xCB 0x96): R324. -/
def execRes2AtHl (s : State) : Res State := resR8 2 .atHl s
/-- `RES 2,A` (0xCB 0x97): R324. -/
def execRes2A (s : State) : Res State := resR8 2 (.reg .a) s
/-- `RES 3,B` (0xCB 0x98): R324. -/
def execRes3B (s : State) : Res State := resR8 3 (.reg .b) s
/-- `RES 3,C` (0xCB 0x99): R324. -/
def execRes3C (s : State) : Res State := resR8 3 (.reg .c) s
/-- `RES 3,D` (0xCB 0x9A): R324. -/
def execRes3D (s : State) : Res State := resR8 3 (.reg .d) s
/-- `RES 3,E` (0xCB 0x9B): R324. -/
def execRes3E (s : State) : Res State := resR8 3 (.reg .e) s
/-- `RES 3,H` (0xCB 0x9C): R324. -/
def execRes3H (s : State) : Res State := resR8 3 (.reg .h) s
/-- `RES 3,L` (0xCB 0x9D): R324. -/
def execRes3L (s : State) : Res State := resR8 3 (.reg .l) s
/-- `RES 3,(HL)` (0xCB 0x9E): R324. -/
def execRes3AtHl (s : State) : Res State := resR8 3 .atHl s
/-- `RES 3,A` (0xCB 0x9F): R324. -/
def execRes3A (s : State) : Res State := resR8 3 (.reg .a) s
/-- `RES 4,B` (0xCB 0xA0): R324. -/
def execRes4B (s : State) : Res State := resR8 4 (.reg .b) s
/-- `RES 4,C` (0xCB 0xA1): R324. -/
def execRes4C (s : State) : Res State := resR8 4 (.reg .c) s
/-- `RES 4,D` (0xCB 0xA2): R324. -/
def execRes4D (s : State) : Res State := resR8 4 (.reg .d) s
/-- `RES 4,E` (0xCB 0xA3): R324. -/
def execRes4E (s : State) : Res State := resR8 4 (.reg .e) s
/-- `RES 4,H` (0xCB 0xA4): R324. -/
def execRes4H (s : State) : Res State := resR8 4 (.reg .h) s
/-- `RES 4,L` (0xCB 0xA5): R324. -/
def execRes4L (s : State) : Res State := resR8 4 (.reg .l) s
/-- `RES 4,(HL)` (0xCB 0xA6): R324. -/
def execRes4AtHl (s : State) : Res State := resR8 4 .atHl s
/-- `RES 4,A` (0xCB 0xA7): R324. -/
def execRes4A (s : State) : Res State := resR8 4 (.reg .a) s
/-- `RES 5,B` (0xCB 0xA8): R324. -/
def execRes5B (s : State) : Res State := resR8 5 (.reg .b) s
/-- `RES 5,C` (0xCB 0xA9): R324. -/
def execRes5C (s : State) : Res State := resR8 5 (.reg .c) s
/-- `RES 5,D` (0xCB 0xAA): R324. -/
def execRes5D (s : State) : Res State := resR8 5 (.reg .d) s
/-- `RES 5,E` (0xCB 0xAB): R324. -/
def execRes5E (s : State) : Res State := resR8 5 (.reg .e) s
/-- `RES 5,H` (0xCB 0xAC): R324. -/
def execRes5H (s : State) : Res State := resR8 5 (.reg .h) s
/-- `RES 5,L` (0xCB 0xAD): R324. -/
def execRes5L (s : State) : Res State := resR8 5 (.reg .l) s
/-- `RES 5,(HL)` (0xCB 0xAE): R324. -/
def execRes5AtHl (s : State) : Res State := resR8 5 .atHl s
/-- `RES 5,A` (0xCB 0xAF): R324. -/
def execRes5A (s : State) : Res State := resR8 5 (.reg .a) s
/-- `RES 6,B` (0xCB 0xB0): R324. -/
def execRes6B (s : State) : Res State := resR8 6 (.reg .b) s
/-- `RES 6,C` (0xCB 0xB1): R324. -/
def execRes6C (s : State) : Res State := resR8 6 (.reg .c) s
/-- `RES 6,D` (0xCB 0xB2): R324. -/
def execRes6D (s : State) : Res State := resR8 6 (.reg .d) s
/-- `RES 6,E` (0xCB 0xB3): R324. -/
def execRes6E (s : State) : Res State := resR8 6 (.reg .e) s
/-- `RES 6,H` (0xCB 0xB4): R324. -/
def execRes6H (s : State) : Res State := resR8 6 (.reg .h) s
/-- `RES 6,L` (0xCB 0xB5): R324. -/
def execRes6L (s : State) : Res State := resR8 6 (.reg .l) s
/-- `RES 6,(HL)` (0xCB 0xB6): R324. -/
def execRes6AtHl (s : State) : Res State := resR8 6 .atHl s
/-- `RES 6,A` (0xCB 0xB7): R324. -/
def execRes6A (s : State) : Res State := resR8 6 (.reg .a) s
/-- `RES 7,B` (0xCB 0xB8): R324. -/
def execRes7B (s : State) : Res State := resR8 7 (.reg .b) s
/-- `RES 7,C` (0xCB 0xB9): R324. -/
def execRes7C (s : State) : Res State := resR8 7 (.reg .c) s
/-- `RES 7,D` (0xCB 0xBA): R324. -/
def execRes7D (s : State) : Res State := resR8 7 (.reg .d) s
/-- `RES 7,E` (0xCB 0xBB): R324. -/
def execRes7E (s : State) : Res State := resR8 7 (.reg .e) s
/-- `RES 7,H` (0xCB 0xBC): R324. -/
def execRes7H (s : State) : Res State := resR8 7 (.reg .h) s
/-- `RES 7,L` (0xCB 0xBD): R324. -/
def execRes7L (s : State) : Res State := resR8 7 (.reg .l) s
/-- `RES 7,(HL)` (0xCB 0xBE): R324. -/
def execRes7AtHl (s : State) : Res State := resR8 7 .atHl s
/-- `RES 7,A` (0xCB 0xBF): R324. -/
def execRes7A (s : State) : Res State := resR8 7 (.reg .a) s
/-- `SET 0,B` (0xCB 0xC0): R325. -/
def execSet0B (s : State) : Res State := setR8 0 (.reg .b) s
/-- `SET 0,C` (0xCB 0xC1): R325. -/
def execSet0C (s : State) : Res State := setR8 0 (.reg .c) s
/-- `SET 0,D` (0xCB 0xC2): R325. -/
def execSet0D (s : State) : Res State := setR8 0 (.reg .d) s
/-- `SET 0,E` (0xCB 0xC3): R325. -/
def execSet0E (s : State) : Res State := setR8 0 (.reg .e) s
/-- `SET 0,H` (0xCB 0xC4): R325. -/
def execSet0H (s : State) : Res State := setR8 0 (.reg .h) s
/-- `SET 0,L` (0xCB 0xC5): R325. -/
def execSet0L (s : State) : Res State := setR8 0 (.reg .l) s
/-- `SET 0,(HL)` (0xCB 0xC6): R325. -/
def execSet0AtHl (s : State) : Res State := setR8 0 .atHl s
/-- `SET 0,A` (0xCB 0xC7): R325. -/
def execSet0A (s : State) : Res State := setR8 0 (.reg .a) s
/-- `SET 1,B` (0xCB 0xC8): R325. -/
def execSet1B (s : State) : Res State := setR8 1 (.reg .b) s
/-- `SET 1,C` (0xCB 0xC9): R325. -/
def execSet1C (s : State) : Res State := setR8 1 (.reg .c) s
/-- `SET 1,D` (0xCB 0xCA): R325. -/
def execSet1D (s : State) : Res State := setR8 1 (.reg .d) s
/-- `SET 1,E` (0xCB 0xCB): R325. -/
def execSet1E (s : State) : Res State := setR8 1 (.reg .e) s
/-- `SET 1,H` (0xCB 0xCC): R325. -/
def execSet1H (s : State) : Res State := setR8 1 (.reg .h) s
/-- `SET 1,L` (0xCB 0xCD): R325. -/
def execSet1L (s : State) : Res State := setR8 1 (.reg .l) s
/-- `SET 1,(HL)` (0xCB 0xCE): R325. -/
def execSet1AtHl (s : State) : Res State := setR8 1 .atHl s
/-- `SET 1,A` (0xCB 0xCF): R325. -/
def execSet1A (s : State) : Res State := setR8 1 (.reg .a) s
/-- `SET 2,B` (0xCB 0xD0): R325. -/
def execSet2B (s : State) : Res State := setR8 2 (.reg .b) s
/-- `SET 2,C` (0xCB 0xD1): R325. -/
def execSet2C (s : State) : Res State := setR8 2 (.reg .c) s
/-- `SET 2,D` (0xCB 0xD2): R325. -/
def execSet2D (s : State) : Res State := setR8 2 (.reg .d) s
/-- `SET 2,E` (0xCB 0xD3): R325. -/
def execSet2E (s : State) : Res State := setR8 2 (.reg .e) s
/-- `SET 2,H` (0xCB 0xD4): R325. -/
def execSet2H (s : State) : Res State := setR8 2 (.reg .h) s
/-- `SET 2,L` (0xCB 0xD5): R325. -/
def execSet2L (s : State) : Res State := setR8 2 (.reg .l) s
/-- `SET 2,(HL)` (0xCB 0xD6): R325. -/
def execSet2AtHl (s : State) : Res State := setR8 2 .atHl s
/-- `SET 2,A` (0xCB 0xD7): R325. -/
def execSet2A (s : State) : Res State := setR8 2 (.reg .a) s
/-- `SET 3,B` (0xCB 0xD8): R325. -/
def execSet3B (s : State) : Res State := setR8 3 (.reg .b) s
/-- `SET 3,C` (0xCB 0xD9): R325. -/
def execSet3C (s : State) : Res State := setR8 3 (.reg .c) s
/-- `SET 3,D` (0xCB 0xDA): R325. -/
def execSet3D (s : State) : Res State := setR8 3 (.reg .d) s
/-- `SET 3,E` (0xCB 0xDB): R325. -/
def execSet3E (s : State) : Res State := setR8 3 (.reg .e) s
/-- `SET 3,H` (0xCB 0xDC): R325. -/
def execSet3H (s : State) : Res State := setR8 3 (.reg .h) s
/-- `SET 3,L` (0xCB 0xDD): R325. -/
def execSet3L (s : State) : Res State := setR8 3 (.reg .l) s
/-- `SET 3,(HL)` (0xCB 0xDE): R325. -/
def execSet3AtHl (s : State) : Res State := setR8 3 .atHl s
/-- `SET 3,A` (0xCB 0xDF): R325. -/
def execSet3A (s : State) : Res State := setR8 3 (.reg .a) s
/-- `SET 4,B` (0xCB 0xE0): R325. -/
def execSet4B (s : State) : Res State := setR8 4 (.reg .b) s
/-- `SET 4,C` (0xCB 0xE1): R325. -/
def execSet4C (s : State) : Res State := setR8 4 (.reg .c) s
/-- `SET 4,D` (0xCB 0xE2): R325. -/
def execSet4D (s : State) : Res State := setR8 4 (.reg .d) s
/-- `SET 4,E` (0xCB 0xE3): R325. -/
def execSet4E (s : State) : Res State := setR8 4 (.reg .e) s
/-- `SET 4,H` (0xCB 0xE4): R325. -/
def execSet4H (s : State) : Res State := setR8 4 (.reg .h) s
/-- `SET 4,L` (0xCB 0xE5): R325. -/
def execSet4L (s : State) : Res State := setR8 4 (.reg .l) s
/-- `SET 4,(HL)` (0xCB 0xE6): R325. -/
def execSet4AtHl (s : State) : Res State := setR8 4 .atHl s
/-- `SET 4,A` (0xCB 0xE7): R325. -/
def execSet4A (s : State) : Res State := setR8 4 (.reg .a) s
/-- `SET 5,B` (0xCB 0xE8): R325. -/
def execSet5B (s : State) : Res State := setR8 5 (.reg .b) s
/-- `SET 5,C` (0xCB 0xE9): R325. -/
def execSet5C (s : State) : Res State := setR8 5 (.reg .c) s
/-- `SET 5,D` (0xCB 0xEA): R325. -/
def execSet5D (s : State) : Res State := setR8 5 (.reg .d) s
/-- `SET 5,E` (0xCB 0xEB): R325. -/
def execSet5E (s : State) : Res State := setR8 5 (.reg .e) s
/-- `SET 5,H` (0xCB 0xEC): R325. -/
def execSet5H (s : State) : Res State := setR8 5 (.reg .h) s
/-- `SET 5,L` (0xCB 0xED): R325. -/
def execSet5L (s : State) : Res State := setR8 5 (.reg .l) s
/-- `SET 5,(HL)` (0xCB 0xEE): R325. -/
def execSet5AtHl (s : State) : Res State := setR8 5 .atHl s
/-- `SET 5,A` (0xCB 0xEF): R325. -/
def execSet5A (s : State) : Res State := setR8 5 (.reg .a) s
/-- `SET 6,B` (0xCB 0xF0): R325. -/
def execSet6B (s : State) : Res State := setR8 6 (.reg .b) s
/-- `SET 6,C` (0xCB 0xF1): R325. -/
def execSet6C (s : State) : Res State := setR8 6 (.reg .c) s
/-- `SET 6,D` (0xCB 0xF2): R325. -/
def execSet6D (s : State) : Res State := setR8 6 (.reg .d) s
/-- `SET 6,E` (0xCB 0xF3): R325. -/
def execSet6E (s : State) : Res State := setR8 6 (.reg .e) s
/-- `SET 6,H` (0xCB 0xF4): R325. -/
def execSet6H (s : State) : Res State := setR8 6 (.reg .h) s
/-- `SET 6,L` (0xCB 0xF5): R325. -/
def execSet6L (s : State) : Res State := setR8 6 (.reg .l) s
/-- `SET 6,(HL)` (0xCB 0xF6): R325. -/
def execSet6AtHl (s : State) : Res State := setR8 6 .atHl s
/-- `SET 6,A` (0xCB 0xF7): R325. -/
def execSet6A (s : State) : Res State := setR8 6 (.reg .a) s
/-- `SET 7,B` (0xCB 0xF8): R325. -/
def execSet7B (s : State) : Res State := setR8 7 (.reg .b) s
/-- `SET 7,C` (0xCB 0xF9): R325. -/
def execSet7C (s : State) : Res State := setR8 7 (.reg .c) s
/-- `SET 7,D` (0xCB 0xFA): R325. -/
def execSet7D (s : State) : Res State := setR8 7 (.reg .d) s
/-- `SET 7,E` (0xCB 0xFB): R325. -/
def execSet7E (s : State) : Res State := setR8 7 (.reg .e) s
/-- `SET 7,H` (0xCB 0xFC): R325. -/
def execSet7H (s : State) : Res State := setR8 7 (.reg .h) s
/-- `SET 7,L` (0xCB 0xFD): R325. -/
def execSet7L (s : State) : Res State := setR8 7 (.reg .l) s
/-- `SET 7,(HL)` (0xCB 0xFE): R325. -/
def execSet7AtHl (s : State) : Res State := setR8 7 .atHl s
/-- `SET 7,A` (0xCB 0xFF): R325. -/
def execSet7A (s : State) : Res State := setR8 7 (.reg .a) s

end Sys2Proof.Machine
end

