-- ==== Sys2Proof/Machine/System.lean ====
section
/-! DEFINITION. System instructions and the illegal opcodes (40_step_and_system.md R204 to R209). -/

namespace Sys2Proof.Machine

/-- No effect (R204). -/
def nop (s : State) : Res State := .next s

/-- `stopped <- true` (R205). -/
def stop (s : State) : Res State := .next s.setStopped

/-- `halted <- true`; no Bus access is made (R206). -/
def halt (s : State) : Res State := .next s.setHalted

/-- `IME <- v`, at once (R207, R208). -/
def setInterrupts (v : Bool) (s : State) : Res State := .next (s.setIme v)

/-- The fault of an illegal opcode is taken: a next state with the record latched (R209). -/
def illegalOpcode (op : Byte) (s : State) : Res State := .next (s.raiseIllegal op 1)

/-- `NOP` (0x00): R204. -/
def execNop (s : State) : Res State := nop s
/-- `STOP` (0x10): R205. -/
def execStop (s : State) : Res State := stop s
/-- `HALT` (0x76): R206. -/
def execHalt (s : State) : Res State := halt s
/-- `ILLEGAL` (the opcodes of R136): R209. -/
def execIllegal (op : Byte) (s : State) : Res State := illegalOpcode op s
/-- `DI` (0xF3): R207. -/
def execDi (s : State) : Res State := setInterrupts false s
/-- `EI` (0xFB): R208. -/
def execEi (s : State) : Res State := setInterrupts true s

end Sys2Proof.Machine
end

