-- ==== Sys2Proof/Machine/Fetch.lean ====
section
/-! DEFINITION. Fetching an instruction's bytes (40_step_and_system.md R200, R201, R203): the opcode
byte, then its operand bytes, all before the instruction's own accesses (log 10). -/

namespace Sys2Proof.Machine

/-- The step is a no-op: `stopped`, or `halted` and IME (R200). -/
def State.parked (s : State) : Bool := s.stopped || (s.halted && s.ime)

/-- pc after the opcode fetch: advanced unless halted (R201). -/
def State.pastOpcode (s : State) : State := if s.halted then s else s.setPc (s.pc + 1)

/-- The opcode byte, read at pc as an ordinary read (R201). -/
def fetchOpcode (s : State) : Res (Byte × State) :=
  andThen (memRead s.pc s) fun (op, s1) => .next (op, s1.pastOpcode)

/-- The next `n` bytes by `FetchImm8` (R203). -/
def fetchOperand : Nat → State → Res (List Byte × State)
  | 0, s => .next ([], s)
  | n + 1, s =>
    andThen (fetchImm8 s) fun (v, s1) =>
      andThen (fetchOperand n s1) fun (vs, s2) => .next (v :: vs, s2)

/-- The bytes of the instruction at pc and the state after fetching them. A conditional call that
`UNIMPL_CCALL` names is fetched without its operand (46_control_transfer.md R346). -/
def fetchBytes (s : State) : Res (List Byte × State) :=
  andThen (fetchOpcode s) fun (op, s1) =>
    if unimplementedCall s1.config op then .next ([op], s1)
    else andThen (fetchOperand (operandBytes op) s1) fun (vs, s2) => .next (op :: vs, s2)

/-- The instruction that fetched bytes select (R202): the decoder's, and the illegal instruction
for a call that `UNIMPL_CCALL` names (30_encoding.md R136). -/
def selectInstr (config : Config) (bytes : List Byte) : Instr :=
  let op := bytes.getD 0 0
  if unimplementedCall config op then .illegal op
  else decodeInstr op (bytes.getD 1 0) (bytes.getD 2 0)

/-- The instruction at pc and the state after fetching it. -/
def fetchInstr (s : State) : Res (Instr × State) :=
  andThen (fetchBytes s) fun (bytes, s1) => .next (selectInstr s1.config bytes, s1)

/-! ## Placing bytes for the fetch (log 14) -/

/-- The host puts a byte where a read of an address finds it: a promise of a lent device, a byte of
RAM or of a type-1 cartridge's ROM or enabled RAM. A Dummy holds nothing. -/
def State.place (s : State) (address : Word) (v : Byte) : State :=
  match s.target address with
  | (.lent l, offset) =>
    let dev := s.ports.get l
    { s with ports := s.ports.set l { dev with promised := dev.promised.store unlistedRam offset v } }
  | (.workRam, offset) => { s with workRam := s.workRam.store unlistedRam offset v }
  | (.highRam, offset) => { s with highRam := s.highRam.store unlistedRam offset v }
  | (.cartridge, offset) =>
    match s.cart with
    | .dummy => s
    | .type1 t =>
      let slot := if offset < 0x4000 then 0 else t.switchSlot
      { s with cart := .type1 (
          if offset < 0x8000 then
            { t with rom := t.rom.store unlistedRom (romKey slot (offset % 0x4000)) v }
          else { t with ram := t.ram.store unlistedRam (ramKey t.ramBank (offset - 0x8000)) v }) }
  | (.dummy, _) => s
  | (.noMeaning, _) => s

/-- A byte put at an address would be found there. -/
def State.holdsBytes (s : State) (address : Word) : Bool :=
  match s.target address with
  | (.lent _, _) => true
  | (.workRam, _) => true
  | (.highRam, _) => true
  | (.cartridge, offset) =>
    match s.cart with
    | .dummy => false
    | .type1 t => decide (offset < 0x8000) || t.ramEnabled
  | (.dummy, _) => false
  | (.noMeaning, _) => false

/-- Put bytes at an address and the ones after it. -/
def State.placeAll (s : State) (address : Word) : List Byte → State
  | [] => s
  | v :: vs => (s.place address v).placeAll (address + 1) vs

/-- A state whose next step fetches: no fault latched, not stopped, not halted, and pc where bytes
can be put for three fetches, else at work RAM. -/
def State.readyToFetch (s : State) : State :=
  let t := { s with fault := none, stopped := false, halted := false }
  if t.holdsBytes t.pc && t.holdsBytes (t.pc + 1) && t.holdsBytes (t.pc + 2) then t
  else t.setPc 0xC000

end Sys2Proof.Machine
end

