-- ==== Sys2Proof/Machine/Step.lean ====
section
/-! DEFINITION. One step of the machine (40_step_and_system.md R200), and an instruction placed for
the next fetch. -/

namespace Sys2Proof.Machine

/-- `execute_instr` (R200). A latched fault is reported and nothing changes; a parked step changes
nothing; otherwise the instruction at pc is fetched and run (60_exceptions.md R406, R408; log 8,
log 9). -/
def step (s : State) : Host.Outcome State Fault Refusal :=
  match s.fault with
  | some record => .fault (.latched record)
  | none =>
    if s.parked then .next s
    else andThen (fetchInstr s) fun (i, s1) => exec i s1

/-- `s` with the instruction whose bits are `w` where the next step fetches (log 14). -/
def State.withFetchWord (s : State) (nbits w : Nat) : State :=
  let t := s.readyToFetch
  t.placeAll t.pc ((tableBytes nbits w ++ [0, 0]).take 3)

end Sys2Proof.Machine
end

