-- ==== Sys2Proof/Machine/HostOps.lean ====
section
/-! DEFINITION. What the host does between steps (70_reset_and_hazards.md R470 to R472): each is one
function of a state, so none can happen inside a step (R471, log 16). `construct_cartridge` is
`constructCartridge` (Cartridge.lean) and `step()` is `step` (Step.lean). -/

namespace Sys2Proof.Machine

/-- `load_cartridge(c)`: replaces the cartridge and nothing else (20_memory.md R77). -/
def State.loadCartridge (s : State) (c : Cartridge) : State := { s with cart := c }

/-- `unload_cartridge()`: the slot holds the Dummy (20_memory.md R77). The host may keep the
instance it takes out, with its registers and RAM (70_reset_and_hazards.md R451). -/
def State.unloadCartridge (s : State) : State := s.loadCartridge .dummy

/-- `reset(boot, vram, oam, io)`: the reset state over the lent devices passed in
(70_reset_and_hazards.md R450, R470). The parameters are the run's; the write events stay the
host's; the free values of RAM and of the ports are new ones (log 3, log 5, log 16). -/
def State.hostReset (s : State) (devices : Ports) : State :=
  { State.reset with
    ports := devices
    config := s.config
    events := s.events
    draws := s.draws
    epoch := s.epoch + 1 }

/-- `observe()`: every state element, read only (70_reset_and_hazards.md R470). -/
def State.observe (s : State) : State := s

/-- The host changes what it promises of a device it lends (70_reset_and_hazards.md R472). -/
def State.supplyDevice (s : State) (l : Lent) (d : LentDevice) : State :=
  { s with ports := s.ports.set l d }

/-- The host takes the write events delivered so far (20_memory.md R97). -/
def State.takeEvents (s : State) : List LentWrite × State := (s.events, { s with events := [] })

end Sys2Proof.Machine
end

