-- ==== Sys2Proof/Safety.lean ====
section
/-! DEFINITION. What a step reports, the power states, a state in form, and the end of a run
(60_exceptions.md R406, R413; 70_reset_and_hazards.md R475). -/

namespace Sys2Proof.Machine

/-- What a call of the step function returns to the host (60_exceptions.md R406); `refused` is the
model's refusal (R419). -/
inductive StepReport where
  | ok
  | parked
  | faulted (record : FaultRecord)
  | refused (why : Refusal)
  deriving DecidableEq, Repr

/-- The report of the step from `s` (60_exceptions.md R406, R408). -/
def State.report (s : State) : StepReport :=
  match s.fault with
  | some record => .faulted record
  | none =>
    if s.parked then .parked
    else match step s with
      | .next t =>
        match t.fault with
        | some record => .faulted record
        | none => .ok
      | .fault (.latched record) => .faulted record
      | .refused why => .refused why

/-- The power and execution states (60_exceptions.md R413). -/
inductive PowerState where
  | running
  | haltedSpinning
  | haltedParked
  | stopped
  | faulted
  deriving DecidableEq, Repr

/-- The power state of a state (60_exceptions.md R413). -/
def State.power (s : State) : PowerState :=
  if s.fault.isSome then .faulted
  else if s.stopped then .stopped
  else if s.halted then (if s.ime then .haltedParked else .haltedSpinning)
  else .running

/-- A state in form: every memory canonical and within its size, `rom_select` not zero, every write
event inside its device's window (20_memory.md R96), and only a record that a step may latch in the
fault latch (60_exceptions.md R405). -/
def State.wf (s : State) : Bool :=
  Memory.wf workRamSize unlistedRam s.workRam
    && Memory.wf highRamSize unlistedRam s.highRam
    && s.cart.wf
    && Memory.wf (lentSize .bootOverlay) unlistedRam s.ports.bootOverlay.promised
    && Memory.wf (lentSize .videoRam) unlistedRam s.ports.videoRam.promised
    && Memory.wf (lentSize .oam) unlistedRam s.ports.oam.promised
    && Memory.wf (lentSize .io) unlistedRam s.ports.io.promised
    && s.events.all (fun w => decide (w.offset < lentSize w.device))
    && (match s.fault with
      | some record => record.latchable
      | none => true)

/-- The state is an end of a run: a step reports Parked with no fault latched
(70_reset_and_hazards.md R475). -/
def State.ended (s : State) : Prop := s.fault = none ∧ s.parked = true

/-- The run from a launch state ends in `t` (70_reset_and_hazards.md R453, R475). -/
def RunEnds (s t : State) : Prop := ∃ n : Nat, Host.Core.run core n s = .next t ∧ t.ended

end Sys2Proof.Machine
end

