-- ==== Sys2Proof/Certificates/Slice0/Obligations.lean ====
section
/-! DEFINITION. The statements for the provers. Each docstring names the rules of spec/ it
formalises. Expected results are written out here from the rules (namespace Sys2Proof.Spec), not by
the functions that the meanings call; a byte in memory is read and written by `loadByte` and `store`,
which the statements on the Bus describe. -/

namespace Sys2Proof.Spec

open Sys2Proof.Machine

/-- The eleven opcodes of 30_encoding.md R136. -/
def illegal : List Byte := [0xD3, 0xDB, 0xDD, 0xE3, 0xE4, 0xEB, 0xEC, 0xED, 0xF4, 0xFC, 0xFD]

/-- The opcode is in `UNIMPL_CCALL` (46_control_transfer.md R346). -/
def unimplemented (c : UnimplCcall) (op : Byte) : Prop :=
  (op = 0xC4 ∧ c.nz = true) ∨ (op = 0xCC ∧ c.z = true) ∨ (op = 0xD4 ∧ c.nc = true)
    ∨ (op = 0xDC ∧ c.c = true)

/-- `v[15:8]`, `v[7:0]` and `wrap16(sp + sext_16(e))` (00_scope.md R9, R10). -/
def hi (v : Word) : Byte := BitVec.ofNat 8 (v.toNat / 256)
def lo (v : Word) : Byte := BitVec.ofNat 8 (v.toNat % 256)
def join (h l : Byte) : Word := BitVec.ofNat 16 (h.toNat * 256 + l.toNat)
def offsetBy (v : Word) (e : Byte) : Word := BitVec.ofInt 16 ((v.toNat : Int) + e.toInt)

/-- The written bit of a register or flag (10_state.md R45). -/
def isWritten (s : State) : RegName → Bool
  | .reg .a => s.written.a
  | .reg .b => s.written.b
  | .reg .c => s.written.c
  | .reg .d => s.written.d
  | .reg .e => s.written.e
  | .reg .h => s.written.h
  | .reg .l => s.written.l
  | .sp => s.written.sp
  | .flag .z => s.written.zf
  | .flag .n => s.written.nf
  | .flag .h => s.written.hf
  | .flag .c => s.written.cf

/-- A register written, with its written bit (00_scope.md R11, 10_state.md R45). -/
def writeReg (s : State) : Reg → Byte → State
  | .a, v => { s with a := v, written := { s.written with a := true } }
  | .b, v => { s with b := v, written := { s.written with b := true } }
  | .c, v => { s with c := v, written := { s.written with c := true } }
  | .d, v => { s with d := v, written := { s.written with d := true } }
  | .e, v => { s with e := v, written := { s.written with e := true } }
  | .h, v => { s with h := v, written := { s.written with h := true } }
  | .l, v => { s with l := v, written := { s.written with l := true } }

/-- SP, and a pair, written: a pair to its two registers (00_scope.md R11, 10_state.md R45). -/
def writeSp (s : State) (v : Word) : State :=
  { s with sp := v, written := { s.written with sp := true } }
def writeBc (s : State) (v : Word) : State :=
  { s with b := hi v, c := lo v, written := { s.written with b := true, c := true } }
def writeDe (s : State) (v : Word) : State :=
  { s with d := hi v, e := lo v, written := { s.written with d := true, e := true } }
def writeHl (s : State) (v : Word) : State :=
  { s with h := hi v, l := lo v, written := { s.written with h := true, l := true } }
def writePair (s : State) : Pair → Word → State
  | .bc, v => writeBc s v
  | .de, v => writeDe s v
  | .hl, v => writeHl s v
  | .sp, v => writeSp s v

/-- A pair read from its two registers (00_scope.md R11). -/
def readPair (s : State) : Pair → Word
  | .bc => join s.b s.c
  | .de => join s.d s.e
  | .hl => join s.h s.l
  | .sp => s.sp

/-- F as a byte (10_state.md R22). -/
def fByte (f : Flags) : Byte :=
  BitVec.ofNat 8 (f.z.toNat * 128 + f.n.toNat * 64 + f.h.toNat * 32 + f.c.toNat * 16)

/-- The word PUSH pushes (42_loads16_stack.md R254). -/
def readStackPair (s : State) : StackPair → Word
  | .bc => join s.b s.c
  | .de => join s.d s.e
  | .hl => join s.h s.l
  | .af => join s.a (fByte s.flags)

/-- Flags written, each with its written bit; `none` is `-` in the table of 10_state.md R23: the flag
and its written bit are kept. -/
def flagged (s : State) (z n h c : Option Bool) : State :=
  { s with
    flags := ⟨z.getD s.flags.z, n.getD s.flags.n, h.getD s.flags.h, c.getD s.flags.c⟩
    written := { s.written with
      zf := s.written.zf || z.isSome, nf := s.written.nf || n.isSome,
      hf := s.written.hf || h.isSome, cf := s.written.cf || c.isSome } }

/-- ADD and ADC (43_alu8.md R271, R272). -/
def add (s : State) (v : Byte) (c : Bool) : State :=
  let sum := s.a.toNat + v.toNat + c.toNat
  flagged (writeReg s .a (BitVec.ofNat 8 (sum % 256))) (decide (sum % 256 = 0)) false
    (decide (s.a.toNat % 16 + v.toNat % 16 + c.toNat > 0x0F)) (decide (sum > 0xFF))

/-- The flags of SUB, SBC and CP (43_alu8.md R273, R274, R278). -/
def compare (s : State) (v : Byte) (c : Bool) : State :=
  flagged s (decide (((s.a.toNat : Int) - v.toNat - c.toNat) % 256 = 0)) true
    (decide (s.a.toNat % 16 < v.toNat % 16 + c.toNat)) (decide (s.a.toNat < v.toNat + c.toNat))

/-- SUB and SBC (43_alu8.md R273, R274). -/
def sub (s : State) (v : Byte) (c : Bool) : State :=
  writeReg (compare s v c) .a (BitVec.ofInt 8 ((s.a.toNat : Int) - v.toNat - c.toNat))

/-- AND, XOR and OR leave `r` in A (43_alu8.md R275 to R277). -/
def logic (s : State) (r : Byte) (h : Bool) : State :=
  flagged (writeReg s .a r) (decide (r = 0)) false h false

/-- `Push16(v)` where both addresses have a meaning (00_scope.md R14). -/
def push (s : State) (v : Word) : State :=
  let s1 := (writeSp s (s.sp - 1)).store (s.sp - 1) (hi v)
  (writeSp s1 (s.sp - 2)).store (s.sp - 2) (lo v)

/-- The state after `Pop16()` and the word it returns, where both addresses have a meaning
(00_scope.md R14). -/
def afterPop (s : State) : State := writeSp ((s.afterLoad s.sp).afterLoad (s.sp + 1)) (s.sp + 2)
def popped (s : State) : Word := join ((s.afterLoad s.sp).loadByte (s.sp + 1)) (s.loadByte s.sp)

/-- The address is in work RAM, its echo or high RAM (20_memory.md R66, R67, R71). -/
def inRam (x : Word) : Prop := (0xC000 ≤ x.toNat ∧ x.toNat < 0xFE00) ∨ 0xFF80 ≤ x.toNat

/-- A register code's operand (30_encoding.md R123), and the operations in the order of R128 and
R129. -/
def codes : List R8 :=
  [.reg .b, .reg .c, .reg .d, .reg .e, .reg .h, .reg .l, .atHl, .reg .a]
def aluCodes : List AluOp := [.add, .adc, .sub, .sbc, .and, .xor, .or, .cp]
def rotCodes : List RotOp := [.rlc, .rrc, .rl, .rr, .sla, .sra, .swap, .srl]

/-! ## The frame, by opcode (the maps of 30_encoding.md R138 and R139) -/

/-- The opcode byte of an instruction, or 0x100 plus the extended byte. -/
def opcode (i : Instr) : Nat :=
  let op := ((encode i).getD 0 0).toNat
  if op = 0xCB then 0x100 + ((encode i).getD 1 0).toNat else op

/-- The general registers an opcode's rule writes (10_state.md R21; files 40 to 46). -/
def writtenRegs (k : Nat) : List Reg :=
  let r8 : List (List Reg) := [[.b], [.c], [.d], [.e], [.h], [.l], [], [.a]]
  let pair : List (List Reg) := [[.b, .c], [.d, .e], [.h, .l], []]
  if 0x100 ≤ k then (if 0x140 ≤ k ∧ k < 0x180 then [] else r8.getD (k % 8) [])
  else if k < 0x40 then
    if k % 8 = 4 ∨ k % 8 = 5 ∨ k % 8 = 6 then r8.getD (k / 8) []
    else if k % 16 = 1 ∨ k % 16 = 3 ∨ k % 16 = 11 then pair.getD (k / 16) []
    else if k % 16 = 9 ∨ k = 0x22 ∨ k = 0x32 then [.h, .l]
    else if k = 0x2A ∨ k = 0x3A then [.a, .h, .l]
    else if k ∈ [0x0A, 0x1A, 0x07, 0x0F, 0x17, 0x1F, 0x27, 0x2F] then [.a]
    else []
  else if k < 0x80 then r8.getD (k / 8 % 8) []
  else if k < 0xC0 then (if k < 0xB8 then [.a] else [])
  else if k ∈ [0xC6, 0xCE, 0xD6, 0xDE, 0xE6, 0xEE, 0xF6, 0xF0, 0xF2, 0xFA, 0xF1] then [.a]
  else if k ∈ [0xC1, 0xD1, 0xE1] then pair.getD (k / 16 - 12) []
  else if k = 0xF8 then [.h, .l]
  else []

/-- The opcodes whose rule writes SP: LD SP, INC SP, DEC SP, ADD SP, the pushes, pops, calls, returns
and restarts (files 42, 44, 46). -/
def writesSp (k : Nat) : Bool :=
  decide (k ∈ [0x31, 0x33, 0x3B, 0xF9, 0xE8, 0xC5, 0xD5, 0xE5, 0xF5, 0xC1, 0xD1, 0xE1, 0xF1,
    0xC0, 0xC8, 0xD0, 0xD8, 0xC9, 0xD9, 0xC4, 0xCC, 0xD4, 0xDC, 0xCD,
    0xC7, 0xCF, 0xD7, 0xDF, 0xE7, 0xEF, 0xF7, 0xFF])

/-- What an instruction does to one flag: a cell of the table of 10_state.md R23. -/
inductive FlagCell where
  | keeps
  | zero
  | one
  | result
  deriving DecidableEq, Repr

/-- The cell holds of a flag before and after. -/
def FlagCell.allows : FlagCell → Bool → Bool → Prop
  | .keeps, old, new => new = old
  | .zero, _, new => new = false
  | .one, _, new => new = true
  | .result, _, _ => True

/-- The row of an 8-bit ALU operation, by its code. -/
def aluFlagRow (y : Nat) : FlagCell × FlagCell × FlagCell × FlagCell :=
  if y ≤ 1 then (.result, .zero, .result, .result)
  else if y = 4 then (.result, .zero, .one, .zero)
  else if y = 5 ∨ y = 6 then (.result, .zero, .zero, .zero)
  else (.result, .one, .result, .result)

/-- The row of an opcode in the table of 10_state.md R23: Z, N, H, C. -/
def flagRow (k : Nat) : FlagCell × FlagCell × FlagCell × FlagCell :=
  if 0x100 ≤ k then
    if 0x180 ≤ k then (.keeps, .keeps, .keeps, .keeps)
    else if 0x140 ≤ k then (.result, .zero, .one, .keeps)
    else if 0x130 ≤ k ∧ k < 0x138 then (.result, .zero, .zero, .zero)
    else (.result, .zero, .zero, .result)
  else if k < 0x40 ∧ k % 8 = 4 then (.result, .zero, .result, .keeps)
  else if k < 0x40 ∧ k % 8 = 5 then (.result, .one, .result, .keeps)
  else if k < 0x40 ∧ k % 16 = 9 then (.keeps, .zero, .result, .result)
  else if k ∈ [0x07, 0x0F, 0x17, 0x1F] then (.zero, .zero, .zero, .result)
  else if k = 0x27 then (.result, .keeps, .zero, .result)
  else if k = 0x2F then (.keeps, .one, .one, .keeps)
  else if k = 0x37 then (.keeps, .zero, .zero, .one)
  else if k = 0x3F then (.keeps, .zero, .zero, .result)
  else if 0x80 ≤ k ∧ k < 0xC0 then aluFlagRow (k / 8 % 8)
  else if 0xC0 ≤ k ∧ k % 8 = 6 then aluFlagRow (k / 8 % 8)
  else if k = 0xE8 ∨ k = 0xF8 then (.zero, .zero, .result, .result)
  else if k = 0xF1 then (.result, .result, .result, .result)
  else (.keeps, .keeps, .keeps, .keeps)

/-- The flag and its written bit before and after (10_state.md R23, R45). -/
def FlagCell.holds (cell : FlagCell) (s t : State) (f : FlagName) (flag : Flags → Bool) : Prop :=
  cell.allows (flag s.flags) (flag t.flags)
    ∧ isWritten t (.flag f) = (if cell = .keeps then isWritten s (.flag f) else true)

/-- The registers and flags the rule of an opcode reads, in the order of its pseudocode (files 40 to 46;
60_exceptions.md R418; the order within one line is log 21). -/
def readsOf (k : Nat) (s : State) : List RegName :=
  let r8 : List (List RegName) := [[.reg .b], [.reg .c], [.reg .d], [.reg .e], [.reg .h], [.reg .l],
    [.reg .h, .reg .l], [.reg .a]]
  let pair : List (List RegName) := [[.reg .b, .reg .c], [.reg .d, .reg .e], [.reg .h, .reg .l], [.sp]]
  let alu : Nat → List RegName := fun y => if y = 1 ∨ y = 3 then [.reg .a, .flag .c] else [.reg .a]
  let z : List RegName := [.flag .z]
  let c : List RegName := [.flag .c]
  if 0x100 ≤ k then
    r8.getD (k % 8) [] ++ (if 0x110 ≤ k ∧ k < 0x120 ∧ s.config.cbRow1AsRlc = false then c else [])
  else if k < 0x40 then
    if k % 8 = 4 ∨ k % 8 = 5 then r8.getD (k / 8) []
    else if k % 8 = 3 then pair.getD (k / 16) []
    else if k % 16 = 9 then [.reg .h, .reg .l] ++ pair.getD (k / 16) []
    else if k = 0x02 then [.reg .b, .reg .c, .reg .a]
    else if k = 0x12 then [.reg .d, .reg .e, .reg .a]
    else if k = 0x22 ∨ k = 0x32 then [.reg .h, .reg .l, .reg .a]
    else if k = 0x0A then [.reg .b, .reg .c]
    else if k = 0x1A then [.reg .d, .reg .e]
    else if k = 0x2A ∨ k = 0x3A ∨ k = 0x36 then [.reg .h, .reg .l]
    else if k = 0x08 then [.sp]
    else if k = 0x07 ∨ k = 0x0F ∨ k = 0x2F then [.reg .a]
    else if k = 0x17 ∨ k = 0x1F then [.reg .a, .flag .c]
    else if k = 0x27 then [.reg .a, .flag .c, .flag .n, .flag .h]
    else if k = 0x20 ∨ k = 0x28 then z
    else if k = 0x30 ∨ k = 0x38 ∨ k = 0x3F then c
    else []
  else if k < 0x80 then
    if k = 0x76 then []
    else if 0x70 ≤ k ∧ k < 0x78 then [.reg .h, .reg .l] ++ r8.getD (k % 8) []
    else r8.getD (k % 8) []
  else if k < 0xC0 then r8.getD (k % 8) [] ++ alu (k / 8 % 8)
  else if k % 8 = 6 then alu (k / 8 % 8)
  else if k = 0xC5 ∨ k = 0xD5 ∨ k = 0xE5 then pair.getD (k / 16 - 12) [] ++ [.sp]
  else if k = 0xF5 then [.reg .a, .flag .z, .flag .n, .flag .h, .flag .c, .sp]
  else if k % 8 = 7 ∨ k ∈ [0xC1, 0xD1, 0xE1, 0xF1, 0xC9, 0xCD, 0xD9, 0xE8, 0xF8] then [.sp]
  else if k = 0xC2 ∨ k = 0xCA then z
  else if k = 0xD2 ∨ k = 0xDA then c
  else if k = 0xC0 ∨ (k = 0xC4 ∧ s.config.unimplCcall.nz = false) then
    z ++ (if s.flags.z then [] else [.sp])
  else if k = 0xC8 ∨ (k = 0xCC ∧ s.config.unimplCcall.z = false) then
    z ++ (if s.flags.z then [.sp] else [])
  else if k = 0xD0 ∨ (k = 0xD4 ∧ s.config.unimplCcall.nc = false) then
    c ++ (if s.flags.c then [] else [.sp])
  else if k = 0xD8 ∨ (k = 0xDC ∧ s.config.unimplCcall.c = false) then
    c ++ (if s.flags.c then [.sp] else [])
  else if k = 0xE0 ∨ k = 0xEA then [.reg .a]
  else if k = 0xE2 then [.reg .c, .reg .a]
  else if k = 0xF2 then [.reg .c]
  else if k = 0xE9 ∨ k = 0xF9 then [.reg .h, .reg .l]
  else []

/-- The registers and flags an instruction's rule reads. -/
def reads (i : Instr) (s : State) : List RegName := readsOf (opcode i) s

/-- No read of these is an UnwrittenRead: `RESET_REGS` is DRAW, or each is written
(60_exceptions.md R418). -/
def canRead (s : State) (names : List RegName) : Prop :=
  s.config.resetRegs = .draw ∨ ∀ n ∈ names, isWritten s n = true

/-- The instruction completes and leaves `t`, unless it reads what is unwritten under NOVALUE
(60_exceptions.md R418). -/
def runs (i : Instr) (s t : State) : Prop := canRead s (reads i s) → exec i s = .next t

/-- The opcodes that read memory before they read a register or flag: the ALU operations on the byte at
HL read A after it, and RL and RR of it the carry (43_alu8.md R270; 45_rotate_shift_bit.md R317,
R318). -/
def readsMemoryFirst (k : Nat) : Bool :=
  decide ((0x80 ≤ k ∧ k < 0xC0 ∧ k % 8 = 6) ∨ k = 0x116 ∨ k = 0x11E)

/-- What an instruction has written when the read of a register or flag ends it: CCF has cleared N and
H, and no other rule writes before a read that can be its first unwritten one (43_alu8.md R284,
60_exceptions.md R407; that the parts of one line run left to right is log 21). -/
def writtenFirst (i : Instr) (s : State) : State :=
  if opcode i = 0x3F then flagged s none false false none else s

/-- The addresses an instruction's rule stores to, computed from the state before it (files 41 to
46): at HL, BC, DE, in the 0xFF00 page, at an immediate address, or below SP. -/
def storesTo (i : Instr) (s : State) : List Word :=
  let k := opcode i
  let n := (encode i).getD 1 0
  let word := join ((encode i).getD 2 0) n
  let below := [s.sp - 1, s.sp - 2]
  if 0x100 ≤ k then (if k % 8 = 6 ∧ ¬ (0x140 ≤ k ∧ k < 0x180) then [join s.h s.l] else [])
  else if (0x70 ≤ k ∧ k < 0x78 ∧ k ≠ 0x76) ∨ k ∈ [0x22, 0x32, 0x34, 0x35, 0x36] then [join s.h s.l]
  else if k = 0x02 then [join s.b s.c]
  else if k = 0x12 then [join s.d s.e]
  else if k = 0xE0 then [BitVec.ofNat 16 (0xFF00 + n.toNat)]
  else if k = 0xE2 then [BitVec.ofNat 16 (0xFF00 + s.c.toNat)]
  else if k = 0xEA then [word]
  else if k = 0x08 then [word, word + 1]
  else if k ∈ [0xC5, 0xD5, 0xE5, 0xF5, 0xCD] ∨ (0xC0 ≤ k ∧ k % 8 = 7) then below
  else if k = 0xC4 then (if s.flags.z then [] else below)
  else if k = 0xCC then (if s.flags.z then below else [])
  else if k = 0xD4 then (if s.flags.c then [] else below)
  else if k = 0xDC then (if s.flags.c then below else [])
  else []

end Sys2Proof.Spec

open Sys2Proof Sys2Proof.Machine

/-! ## Encoding -/

/-- Words written out from the encodings of files 40 to 46 decode to their instruction, one or more
of every family. -/
def Obligations.DecodesAWordOfEveryFamily : Prop :=
  decode [0x00] = .ok (.nop, []) ∧ decode [0x10] = .ok (.stop, [])
    ∧ decode [0x76] = .ok (.halt, []) ∧ decode [0xED] = .ok (.illegal 0xED, [])
    ∧ decode [0xCB] = .ok (.prefixCb, [])
    ∧ decode [0b01001000] = .ok (.ldCB, []) ∧ decode [0x36, 0x77] = .ok (.ldAtHlN8 0x77, [])
    ∧ decode [0xEA, 0x00, 0x20] = .ok (.ldAtA16A 0x2000, [])
    ∧ decode [0x21, 0x00, 0xC1] = .ok (.ldHlN16 0xC100, [])
    ∧ decode [0b11110101] = .ok (.pushAf, []) ∧ decode [0b10001011] = .ok (.adcAE, [])
    ∧ decode [0xD6, 0x0F] = .ok (.subAN8 0x0F, []) ∧ decode [0b00110101] = .ok (.decAtHl, [])
    ∧ decode [0b00111001] = .ok (.addHlSp, []) ∧ decode [0xE8, 0x02] = .ok (.addSpE8 0x02, [])
    ∧ decode [0x1F] = .ok (.rra, []) ∧ decode [0xCB, 0b00011110] = .ok (.rrAtHl, [])
    ∧ decode [0xCB, 0b01111111] = .ok (.bit7A, []) ∧ decode [0xCB, 0b11001011] = .ok (.set1E, [])
    ∧ decode [0x20, 0xFC] = .ok (.jrNzE8 0xFC, []) ∧ decode [0xDA, 0x00, 0xC1] = .ok (.jpCA16 0xC100, [])
    ∧ decode [0xCD, 0x10, 0xC0] = .ok (.callA16 0xC010, []) ∧ decode [0b11101111] = .ok (.rst28, [])

/-- Every well-formed instruction is read back from its encoding, with the bytes after it left
(30_encoding.md R120 to R139); the prefix byte alone must be the last. -/
def Obligations.DecodeReadsBackEveryEncoding : Prop :=
  ∀ (i : Instr) (rest : List Byte), i.wf = true → (i = .prefixCb → rest = []) →
    decode (encode i ++ rest) = .ok (i, rest)

/-- Whatever bytes decode, the instruction is well-formed and its encoding is exactly the bytes
taken: no two words have one instruction and no bit is dropped (30_encoding.md R137). -/
def Obligations.EncodeGivesBackTheDecodedBytes : Prop :=
  ∀ (bytes rest : List Byte) (i : Instr), decode bytes = .ok (i, rest) →
    i.wf = true ∧ encode i ++ rest = bytes

/-- Three bytes always hold an instruction at their head, and it is an illegal one exactly for the
eleven opcodes (30_encoding.md R136, R137). -/
def Obligations.DecoderIsTotal : Prop :=
  ∀ (op b1 b2 : Byte) (after : List Byte),
    (∃ i rest, decode (op :: b1 :: b2 :: after) = .ok (i, rest) ∧ after.length ≤ rest.length)
    ∧ ((∃ x rest, decode (op :: b1 :: b2 :: after) = .ok (.illegal x, rest)) ↔ op ∈ Spec.illegal)
    ∧ (op ∈ Spec.illegal → decode (op :: b1 :: b2 :: after) = .ok (.illegal op, b1 :: b2 :: after))

/-- Class 01, class 10, the immediate ALU forms, the restarts and the extended table decode by their
bit fields y and z (30_encoding.md R122, R123, R128, R129, R132, R133, R135). -/
def Obligations.FieldsSelectTheOperation : Prop :=
  ∀ (y z : Fin 8) (n : Byte) (rest : List Byte),
    let op : Nat → Byte := fun x => BitVec.ofNat 8 (64 * x + 8 * y + z)
    let r := Spec.codes.getD z .atHl
    decode (op 1 :: rest) = .ok (Instr.class01 (Spec.codes.getD y .atHl) r, rest)
    ∧ decode (op 2 :: rest) = .ok (Instr.aluR8 (Spec.aluCodes.getD y .cp) r, rest)
    ∧ (z = 6 → decode (op 3 :: n :: rest) = .ok (Instr.aluN8 (Spec.aluCodes.getD y .cp) n, rest))
    ∧ (z = 7 → decode (op 3 :: rest) = .ok (Instr.rst y, rest))
    ∧ decode (0xCB :: op 0 :: rest) = .ok (Instr.rot (Spec.rotCodes.getD y .srl) r, rest)
    ∧ decode (0xCB :: op 1 :: rest) = .ok (Instr.bit y r, rest)
    ∧ decode (0xCB :: op 2 :: rest) = .ok (Instr.res y r, rest)
    ∧ decode (0xCB :: op 3 :: rest) = .ok (Instr.set y r, rest)

/-! ## Fetch and step -/

/-- The bytes fetched are the ones at pc, in order; only the opcode byte's advance is suppressed
while halted, and a call in `UNIMPL_CCALL` is fetched without its operand (40_step_and_system.md
R201, R203; 46_control_transfer.md R346). -/
def Obligations.FetchReadsTheBytesAtPc : Prop :=
  ∀ s : State, s.reaches s.pc = true →
    let op := s.loadByte s.pc
    let s1 := if s.halted then s.afterLoad s.pc else { s.afterLoad s.pc with pc := s.pc + 1 }
    (Spec.unimplemented s.config.unimplCcall op → fetchBytes s = .next ([op], s1))
      ∧ (¬ Spec.unimplemented s.config.unimplCcall op →
        (operandBytes op = 0 → fetchBytes s = .next ([op], s1))
        ∧ (s.reaches s1.pc = true →
          let s2 := { s1.afterLoad s1.pc with pc := s1.pc + 1 }
          (operandBytes op = 1 → fetchBytes s = .next ([op, s1.loadByte s1.pc], s2))
          ∧ (operandBytes op = 2 → s.reaches s2.pc = true →
            fetchBytes s = .next ([op, s1.loadByte s1.pc, s2.loadByte s2.pc],
              { s2.afterLoad s2.pc with pc := s2.pc + 1 }))))

/-- When the bytes at pc decode to an instruction, the step is exec of that instruction on the state
after the fetch (40_step_and_system.md R200, R202). -/
def Obligations.StepRunsTheDecodedInstruction : Prop :=
  ∀ (s s1 : State) (op : Byte) (operand : List Byte) (i : Instr),
    s.fault = none → s.stopped = false → (s.halted = false ∨ s.ime = false) →
    fetchBytes s = .next (op :: operand, s1) →
    ¬ Spec.unimplemented s.config.unimplCcall op →
    decode (op :: operand) = .ok (i, []) →
    step s = exec i s1

/-- A step with a fault latched reports the record and changes nothing; a parked step changes nothing
(40_step_and_system.md R200; 60_exceptions.md R405, R406). That the one is the outcome `fault` and the
other the same state as `next` is the model's choice (log 8, log 9). -/
def Obligations.LatchedAndParkedStepsChangeNothing : Prop :=
  ∀ s : State,
    (∀ r : FaultRecord, s.fault = some r → step s = .fault (.latched r) ∧ s.report = .faulted r)
    ∧ (s.fault = none → (s.stopped = true ∨ (s.halted = true ∧ s.ime = true)) →
      step s = .next s ∧ s.report = .parked)

/-- An illegal opcode, or a conditional call in `UNIMPL_CCALL`, is latched right after the opcode
fetch with its own address; nothing else has changed, and the step reports the fault
(60_exceptions.md R402, R406, R407). That this step answers a next state is log 8. -/
def Obligations.IllegalOpcodeIsLatched : Prop :=
  ∀ (s : State) (op : Byte), s.fault = none → s.stopped = false →
    (s.halted = false ∨ s.ime = false) → s.reaches s.pc = true → s.loadByte s.pc = op →
    (op ∈ Spec.illegal ∨ Spec.unimplemented s.config.unimplCcall op) →
    step s = .next { s.afterLoad s.pc with
      pc := if s.halted then s.pc else s.pc + 1
      fault := some (.illegalInstruction op s.pc) }
    ∧ s.report = .faulted (.illegalInstruction op s.pc)

/-- A halted step at a prefix byte, wherever it lies, executes SET 1,E: the byte is fetched twice. A
lent device must answer 0xCB both times; RAM and the cartridge do of themselves
(40_step_and_system.md R201, R210, corner case). -/
def Obligations.HaltedPrefixRunsSetOneE : Prop :=
  ∀ s : State, s.fault = none → s.stopped = false → s.halted = true → s.ime = false →
    s.reaches s.pc = true → s.loadByte s.pc = 0xCB →
    ((∃ l, (s.target s.pc).1 = .lent l) → (s.afterLoad s.pc).loadByte s.pc = 0xCB) →
    Spec.canRead s [.reg .e] →
    step s = .next (Spec.writeReg { (s.afterLoad s.pc).afterLoad s.pc with pc := s.pc + 1 } .e
      (s.e ||| 0x02))

/-! ## System instructions -/

/-- NOP, DI, EI, STOP and HALT; after STOP, and after HALT with IME true, every step is parked
(40_step_and_system.md R200, R204 to R208). That a parked step answers the same state as `next` is the
model's form of the outcome Parked (log 9). -/
def Obligations.SystemInstructionEffects : Prop :=
  ∀ s : State, exec .nop s = .next s ∧ exec .di s = .next { s with ime := false }
    ∧ exec .ei s = .next { s with ime := true }
    ∧ exec .stop s = .next { s with stopped := true }
    ∧ exec .halt s = .next { s with halted := true }
    ∧ (s.fault = none → step { s with stopped := true } = .next { s with stopped := true })
    ∧ (s.fault = none → s.ime = true →
        step { s with halted := true } = .next { s with halted := true })

/-- An illegal opcode raises IllegalInstruction with its opcode and its own address; the pc advance
of the fetch stays (40_step_and_system.md R209). That exec answers a next state is log 8. -/
def Obligations.IllegalRaisesTheFault : Prop :=
  ∀ (s : State) (op : Byte), exec (.illegal op) s = .next { s with
    fault := some (.illegalInstruction op (if s.halted then s.pc else s.pc - 1)) }

/-- The prefix fetches the extended byte at pc and runs the instruction it selects
(40_step_and_system.md R210); with TRUE_MIRROR it always completes. That an unwritten read of the
selected instruction counts as completing, its fault latched in the next state, is the model's reading
(log 8). -/
def Obligations.PrefixSelectsTheExtendedTable : Prop :=
  ∀ s : State,
    (s.reaches s.pc = true → exec .prefixCb s =
      exec (decodeExtended (s.loadByte s.pc)) { s.afterLoad s.pc with pc := s.pc + 1 })
    ∧ (s.config.echo = .trueMirror → ∃ t, exec .prefixCb s = .next t)

/-! ## 8-bit loads -/

/-- LD r,r'; LD r,(HL); LD (HL),r; LD r,n8; LD (HL),n8 (41_loads8.md R220 to R224). -/
def Obligations.LdRegistersHlAndImmediate : Prop :=
  ∀ (s : State) (n : Byte) (dst src : Reg),
    let hl := Spec.join s.h s.l
    Spec.runs (Instr.class01 (.reg dst) (.reg src)) s (Spec.writeReg s dst (s.getReg src))
    ∧ exec (Instr.ldR8N8 (.reg dst) n) s = .next (Spec.writeReg s dst n)
    ∧ (s.reaches hl = true →
      Spec.runs (Instr.class01 (.reg dst) .atHl) s
        (Spec.writeReg (s.afterLoad hl) dst (s.loadByte hl))
      ∧ Spec.runs (Instr.class01 .atHl (.reg src)) s (s.store hl (s.getReg src))
      ∧ Spec.runs (Instr.ldR8N8 .atHl n) s (s.store hl n))

/-- A stored to and loaded from the byte at BC, DE and HL; the HL forms then step HL modulo 65536
(41_loads8.md R225 to R232). -/
def Obligations.LdAccumulatorThroughPairs : Prop :=
  ∀ s : State,
    let bc := Spec.join s.b s.c
    let de := Spec.join s.d s.e
    let hl := Spec.join s.h s.l
    let loaded : Word → State := fun x => Spec.writeReg (s.afterLoad x) .a (s.loadByte x)
    (s.reaches bc = true →
      Spec.runs .ldAtBcA s (s.store bc s.a) ∧ Spec.runs .ldAAtBc s (loaded bc))
    ∧ (s.reaches de = true →
      Spec.runs .ldAtDeA s (s.store de s.a) ∧ Spec.runs .ldAAtDe s (loaded de))
    ∧ (s.reaches hl = true →
      Spec.runs .ldAtHlIncA s (Spec.writeHl (s.store hl s.a) (hl + 1))
      ∧ Spec.runs .ldAtHlDecA s (Spec.writeHl (s.store hl s.a) (hl - 1))
      ∧ Spec.runs .ldAAtHlInc s (Spec.writeHl (loaded hl) (hl + 1))
      ∧ Spec.runs .ldAAtHlDec s (Spec.writeHl (loaded hl) (hl - 1)))

/-- LDH (a8),A; LDH A,(a8); LD (C),A; LD A,(C): the byte at 0xFF00 + n, which is the I/O block's at
offset n, or high RAM's at n - 0x80; LD (a16),A; LD A,(a16) (41_loads8.md R233 to R238; 20_memory.md
R70, R71). -/
def Obligations.LdHighPageAndAbsolute : Prop :=
  ∀ (s : State) (n : Byte) (x : Word),
    let page : Byte → Word := fun n => BitVec.ofNat 16 (0xFF00 + n.toNat)
    let loaded : Word → State := fun x => Spec.writeReg (s.afterLoad x) .a (s.loadByte x)
    (n.toNat ≤ 0x7F → s.target (page n) = (.lent .io, n.toNat))
    ∧ (0x80 ≤ n.toNat → s.target (page n) = (.highRam, n.toNat - 0x80))
    ∧ Spec.runs (.ldhAtA8A n) s (s.store (page n) s.a)
    ∧ Spec.runs (.ldhAAtA8 n) s (loaded (page n))
    ∧ Spec.runs .ldAtCA s (s.store (page s.c) s.a)
    ∧ Spec.runs .ldAAtC s (loaded (page s.c))
    ∧ (s.reaches x = true →
      Spec.runs (.ldAtA16A x) s (s.store x s.a) ∧ Spec.runs (.ldAAtA16 x) s (loaded x))

/-! ## 16-bit loads and the stack -/

/-- LD rr,n16; LD SP,HL (42_loads16_stack.md R250, R252). -/
def Obligations.LdPairsAndSp : Prop :=
  ∀ s : State,
    (∀ (p : Pair) (nn : Word), exec (Instr.ldPairN16 p nn) s = .next (Spec.writePair s p nn))
    ∧ Spec.runs .ldSpHl s (Spec.writeSp s (Spec.join s.h s.l))

/-- LD (a16),SP: low byte at a16, high byte at a16 + 1 modulo 65536 (42_loads16_stack.md R251). -/
def Obligations.LdStoresSpInTwoBytes : Prop :=
  ∀ (s : State) (x : Word), s.reaches x = true → s.reaches (x + 1) = true →
    Spec.runs (.ldAtA16Sp x) s ((s.store x (Spec.lo s.sp)).store (x + 1) (Spec.hi s.sp))

/-- LD HL,SP+e8 and ADD SP,e8: the signed sum, and H and C from the unsigned low bytes
(42_loads16_stack.md R253, 44_alu16.md R303). -/
def Obligations.SpPlusDisplacement : Prop :=
  ∀ (s : State) (e : Byte),
    let h := decide (s.sp.toNat % 16 + e.toNat % 16 > 0x0F)
    let c := decide (s.sp.toNat % 256 + e.toNat > 0xFF)
    Spec.runs (.ldHlSpE8 e) s (Spec.flagged (Spec.writeHl s (Spec.offsetBy s.sp e)) false false h c)
    ∧ Spec.runs (.addSpE8 e) s (Spec.flagged (Spec.writeSp s (Spec.offsetBy s.sp e)) false false h c)

/-- PUSH rr: high byte at SP - 1, then low byte at SP - 2 (42_loads16_stack.md R254). -/
def Obligations.PushStoresThePair : Prop :=
  ∀ (s : State) (p : StackPair), s.reaches (s.sp - 1) = true → s.reaches (s.sp - 2) = true →
    Spec.runs (Instr.pushPair p) s (Spec.push s (Spec.readStackPair s p))

/-- POP rr and POP AF: low byte at SP, high byte at SP + 1; the flags take the high nibble of the
low byte (42_loads16_stack.md R255, R256). -/
def Obligations.PopLoadsThePair : Prop :=
  ∀ s : State, s.reaches s.sp = true → s.reaches (s.sp + 1) = true →
    let t := Spec.afterPop s
    let v := Spec.popped s
    Spec.runs .popBc s (Spec.writeBc t v) ∧ Spec.runs .popDe s (Spec.writeDe t v)
    ∧ Spec.runs .popHl s (Spec.writeHl t v)
    ∧ Spec.runs .popAf s (Spec.flagged (Spec.writeReg t .a (Spec.hi v))
        (v.getLsbD 7) (v.getLsbD 6) (v.getLsbD 5) (v.getLsbD 4))

/-- What is pushed onto RAM comes back: a pair pushed and popped again is what it was, and a return after
a call goes on at the instruction after the call; SP is what it was (00_scope.md R14; 20_memory.md
R76, R98; 46_control_transfer.md R345, R347; F's low nibble reads 0, 10_state.md R22). -/
def Obligations.RamStackGivesBackWhatWasPushed : Prop :=
  ∀ s : State, Spec.inRam (s.sp - 1) → Spec.inRam (s.sp - 2) →
    s.reaches (s.sp - 1) = true → s.reaches (s.sp - 2) = true →
    (∀ p : StackPair, Spec.canRead s (Spec.reads (Instr.pushPair p) s) →
      ∃ t u, exec (Instr.pushPair p) s = .next t ∧ exec (Instr.popPair p) t = .next u
        ∧ u.sp = s.sp ∧ u.flags = s.flags ∧ ∀ r : Reg, u.getReg r = s.getReg r)
    ∧ ∀ x : Word, Spec.canRead s [.sp] →
      ∃ t u, exec (.callA16 x) s = .next t ∧ exec .ret t = .next u
        ∧ t.pc = x ∧ u.pc = s.pc ∧ u.sp = s.sp

/-! ## 8-bit arithmetic and logic -/

/-- ADD and ADC of a register, the byte at HL and an immediate (43_alu8.md R270 to R272). -/
def Obligations.AddAndAdcResults : Prop :=
  ∀ (s : State) (r : R8) (n : Byte),
    (s.r8Reaches r = true →
      Spec.runs (Instr.aluR8 .add r) s (Spec.add (s.afterR8 r) (s.r8Byte r) false)
      ∧ Spec.runs (Instr.aluR8 .adc r) s (Spec.add (s.afterR8 r) (s.r8Byte r) s.flags.c))
    ∧ Spec.runs (.addAN8 n) s (Spec.add s n false)
    ∧ Spec.runs (.adcAN8 n) s (Spec.add s n s.flags.c)

/-- SUB, SBC and CP of a register, the byte at HL and an immediate (43_alu8.md R273, R274, R278). -/
def Obligations.SubSbcAndCpResults : Prop :=
  ∀ (s : State) (r : R8) (n : Byte),
    (s.r8Reaches r = true →
      Spec.runs (Instr.aluR8 .sub r) s (Spec.sub (s.afterR8 r) (s.r8Byte r) false)
      ∧ Spec.runs (Instr.aluR8 .sbc r) s (Spec.sub (s.afterR8 r) (s.r8Byte r) s.flags.c)
      ∧ Spec.runs (Instr.aluR8 .cp r) s (Spec.compare (s.afterR8 r) (s.r8Byte r) false))
    ∧ Spec.runs (.subAN8 n) s (Spec.sub s n false)
    ∧ Spec.runs (.sbcAN8 n) s (Spec.sub s n s.flags.c)
    ∧ Spec.runs (.cpAN8 n) s (Spec.compare s n false)

/-- AND, XOR and OR of a register, the byte at HL and an immediate (43_alu8.md R275 to R277). -/
def Obligations.LogicResults : Prop :=
  ∀ (s : State) (r : R8) (n : Byte),
    (s.r8Reaches r = true →
      Spec.runs (Instr.aluR8 .and r) s (Spec.logic (s.afterR8 r) (s.a &&& s.r8Byte r) true)
      ∧ Spec.runs (Instr.aluR8 .xor r) s (Spec.logic (s.afterR8 r) (s.a ^^^ s.r8Byte r) false)
      ∧ Spec.runs (Instr.aluR8 .or r) s (Spec.logic (s.afterR8 r) (s.a ||| s.r8Byte r) false))
    ∧ Spec.runs (.andAN8 n) s (Spec.logic s (s.a &&& n) true)
    ∧ Spec.runs (.xorAN8 n) s (Spec.logic s (s.a ^^^ n) false)
    ∧ Spec.runs (.orAN8 n) s (Spec.logic s (s.a ||| n) false)

/-- INC and DEC of a register and of the byte at HL, one read then one write; C is kept
(43_alu8.md R279, R280). -/
def Obligations.IncAndDecResults : Prop :=
  ∀ (s : State) (r : R8), s.r8Reaches r = true →
    let v := s.r8Byte r
    Spec.runs (Instr.incR8 r) s (Spec.flagged ((s.afterR8 r).putR8 r (v + 1))
      (decide (v = 0xFF)) false (decide (v.toNat % 16 = 0x0F)) none)
    ∧ Spec.runs (Instr.decR8 r) s (Spec.flagged ((s.afterR8 r).putR8 r (v - 1))
      (decide (v = 0x01)) true (decide (v.toNat % 16 = 0x00)) none)

/-- DAA, CPL, SCF and CCF (43_alu8.md R281 to R284). -/
def Obligations.DaaCplScfCcfResults : Prop :=
  ∀ s : State,
    let high := s.flags.c || (!s.flags.n && decide (s.a.toNat > 0x99))
    let low : Nat → Bool := fun a => s.flags.h || (!s.flags.n && decide (a % 16 > 9))
    let a1 : Nat := if s.flags.n then (if s.flags.c then s.a.toNat + 256 - 0x60 else s.a.toNat)
      else (if high then s.a.toNat + 0x60 else s.a.toNat)
    let a2 : Nat := if s.flags.n then (if s.flags.h then a1 + 256 - 0x06 else a1)
      else (if low a1 then a1 + 0x06 else a1)
    Spec.runs .daa s (Spec.flagged (Spec.writeReg s .a (BitVec.ofNat 8 a2))
      (decide (a2 % 256 = 0)) none false (if s.flags.n then s.flags.c else high))
    ∧ Spec.runs .cpl s (Spec.flagged (Spec.writeReg s .a (s.a ^^^ 0xFF)) none true true none)
    ∧ exec .scf s = .next (Spec.flagged s none false false true)
    ∧ Spec.runs .ccf s (Spec.flagged s none false false (!s.flags.c))

/-- DAA after ADD of two packed decimal bytes gives the packed decimal sum, with C the decimal carry,
and after SUB the difference, with C the borrow (43_alu8.md R271, R273, R281). -/
def Obligations.DaaCorrectsDecimalSumAndDifference : Prop :=
  ∀ (s t u : State) (x y : Nat), x < 100 → y < 100 →
    let bcd : Nat → Byte := fun v => BitVec.ofNat 8 (v / 10 * 16 + v % 10)
    s.a = bcd x → Spec.canRead s [.reg .a] →
    (exec (.addAN8 (bcd y)) s = .next t → exec .daa t = .next u →
      u.a = bcd ((x + y) % 100) ∧ u.flags.c = decide (x + y ≥ 100))
    ∧ (exec (.subAN8 (bcd y)) s = .next t → exec .daa t = .next u →
      u.a = bcd ((x + 100 - y) % 100) ∧ u.flags.c = decide (x < y))

/-! ## 16-bit arithmetic -/

/-- INC rr and DEC rr, without flags; ADD HL,rr: carries out of bits 11 and 15, Z kept
(44_alu16.md R300 to R302). -/
def Obligations.PairArithmetic : Prop :=
  ∀ (s : State) (p : Pair),
    let a := (Spec.join s.h s.l).toNat
    let v := (Spec.readPair s p).toNat
    Spec.runs (Instr.incPair p) s (Spec.writePair s p (Spec.readPair s p + 1))
    ∧ Spec.runs (Instr.decPair p) s (Spec.writePair s p (Spec.readPair s p - 1))
    ∧ Spec.runs (Instr.addHlPair p) s (Spec.flagged
      (Spec.writeHl s (BitVec.ofNat 16 ((a + v) % 65536))) none false
      (decide (a % 4096 + v % 4096 > 0x0FFF)) (decide (a + v > 0xFFFF)))

/-! ## Rotates, shifts and bits -/

/-- RLCA, RRCA, RLA, RRA: Z, N and H cleared (45_rotate_shift_bit.md R310 to R313). -/
def Obligations.AccumulatorRotates : Prop :=
  ∀ s : State,
    let a := s.a.toNat
    let put : Nat → Bool → State := fun r c =>
      Spec.flagged (Spec.writeReg s .a (BitVec.ofNat 8 r)) false false false c
    Spec.runs .rlca s (put (a * 2 % 256 + a / 128) (decide (a / 128 = 1)))
    ∧ Spec.runs .rrca s (put (a / 2 + a % 2 * 128) (decide (a % 2 = 1)))
    ∧ Spec.runs .rla s (put (a * 2 % 256 + s.flags.c.toNat) (decide (a / 128 = 1)))
    ∧ Spec.runs .rra s (put (a / 2 + s.flags.c.toNat * 128) (decide (a % 2 = 1)))

/-- The rotates and shifts of the extended table on every operand, rows 0x10-0x1F as
`CB_ROW1_AS_RLC` says (45_rotate_shift_bit.md R314 to R322). -/
def Obligations.ExtendedRotatesAndShifts : Prop :=
  ∀ (s : State) (r : R8), s.r8Reaches r = true →
    let v := (s.r8Byte r).toNat
    let c := s.flags.c.toNat
    let put : Nat → Bool → State := fun n carry =>
      Spec.flagged ((s.afterR8 r).putR8 r (BitVec.ofNat 8 n)) (decide (n = 0)) false false carry
    let out7 := decide (v / 128 = 1)
    let out0 := decide (v % 2 = 1)
    let rlc := put (v * 2 % 256 + v / 128) out7
    let rrc := put (v / 2 + v % 2 * 128) out0
    Spec.runs (Instr.rot .rlc r) s rlc
    ∧ Spec.runs (Instr.rot .rrc r) s rrc
    ∧ Spec.runs (Instr.rot .rl r) s (if s.config.cbRow1AsRlc then rlc else put (v * 2 % 256 + c) out7)
    ∧ Spec.runs (Instr.rot .rr r) s (if s.config.cbRow1AsRlc then rrc else put (v / 2 + c * 128) out0)
    ∧ Spec.runs (Instr.rot .sla r) s (put (v * 2 % 256) out7)
    ∧ Spec.runs (Instr.rot .sra r) s (put (v / 2 + v / 128 * 128) out0)
    ∧ Spec.runs (Instr.rot .swap r) s (put (v % 16 * 16 + v / 16) false)
    ∧ Spec.runs (Instr.rot .srl r) s (put (v / 2) out0)

/-- BIT reads and sets Z from the bit; RES and SET write the operand with the one bit changed and no
flag (45_rotate_shift_bit.md R323 to R325). -/
def Obligations.BitResSetResults : Prop :=
  ∀ (s : State) (b : Fin 8) (r : R8), s.r8Reaches r = true →
    let v := s.r8Byte r
    Spec.runs (Instr.bit b r) s (Spec.flagged (s.afterR8 r) (!v.getLsbD b) false true none)
    ∧ ∃ w0 w1 : Byte,
      Spec.runs (Instr.res b r) s ((s.afterR8 r).putR8 r w0)
      ∧ Spec.runs (Instr.set b r) s ((s.afterR8 r).putR8 r w1)
      ∧ ∀ k : Nat, k < 8 →
        w0.getLsbD k = (if k = b then false else v.getLsbD k)
        ∧ w1.getLsbD k = (if k = b then true else v.getLsbD k)

/-! ## Control transfer -/

/-- JR e8, JR cc,e8, JP a16, JP cc,a16 and JP HL (46_control_transfer.md R340 to R344;
30_encoding.md R127). -/
def Obligations.Jumps : Prop :=
  ∀ (s : State) (e : Byte) (x : Word),
    let relative := { s with pc := Spec.offsetBy s.pc e }
    let absolute := { s with pc := x }
    exec (.jrE8 e) s = .next relative ∧ exec (.jpA16 x) s = .next absolute
    ∧ Spec.runs .jpHl s { s with pc := Spec.join s.h s.l }
    ∧ Spec.runs (.jrNzE8 e) s (if s.flags.z then s else relative)
    ∧ Spec.runs (.jrZE8 e) s (if s.flags.z then relative else s)
    ∧ Spec.runs (.jrNcE8 e) s (if s.flags.c then s else relative)
    ∧ Spec.runs (.jrCE8 e) s (if s.flags.c then relative else s)
    ∧ Spec.runs (.jpNzA16 x) s (if s.flags.z then s else absolute)
    ∧ Spec.runs (.jpZA16 x) s (if s.flags.z then absolute else s)
    ∧ Spec.runs (.jpNcA16 x) s (if s.flags.c then s else absolute)
    ∧ Spec.runs (.jpCA16 x) s (if s.flags.c then absolute else s)

/-- CALL a16 and RST push the address of the next instruction, then jump; a conditional call does so
when its condition holds and falls through otherwise, whatever SP is (46_control_transfer.md R345,
R346, R350). -/
def Obligations.CallsAndRestarts : Prop :=
  ∀ (s : State) (x : Word) (y : Fin 8),
    let stack := s.reaches (s.sp - 1) = true ∧ s.reaches (s.sp - 2) = true
    let called := { Spec.push s s.pc with pc := x }
    (stack → Spec.runs (.callA16 x) s called
      ∧ Spec.runs (Instr.rst y) s { Spec.push s s.pc with pc := BitVec.ofNat 16 (8 * y) })
    ∧ (s.config.unimplCcall.nz = false → (s.flags.z = false → stack) →
      Spec.runs (.callNzA16 x) s (if s.flags.z then s else called))
    ∧ (s.config.unimplCcall.z = false → (s.flags.z = true → stack) →
      Spec.runs (.callZA16 x) s (if s.flags.z then called else s))
    ∧ (s.config.unimplCcall.nc = false → (s.flags.c = false → stack) →
      Spec.runs (.callNcA16 x) s (if s.flags.c then s else called))
    ∧ (s.config.unimplCcall.c = false → (s.flags.c = true → stack) →
      Spec.runs (.callCA16 x) s (if s.flags.c then called else s))

/-- RET, RETI and RET cc, which touches no stack when its condition does not hold
(46_control_transfer.md R347 to R349). -/
def Obligations.Returns : Prop :=
  ∀ s : State,
    let stack := s.reaches s.sp = true ∧ s.reaches (s.sp + 1) = true
    let returned := { Spec.afterPop s with pc := Spec.popped s }
    (stack → Spec.runs .ret s returned ∧ Spec.runs .reti s { returned with ime := true })
    ∧ ((s.flags.z = false → stack) → Spec.runs .retNz s (if s.flags.z then s else returned))
    ∧ ((s.flags.z = true → stack) → Spec.runs .retZ s (if s.flags.z then returned else s))
    ∧ ((s.flags.c = false → stack) → Spec.runs .retNc s (if s.flags.c then s else returned))
    ∧ ((s.flags.c = true → stack) → Spec.runs .retC s (if s.flags.c then returned else s))

/-! ## Reads of what nothing has written -/

/-- Under NOVALUE the first read of an unwritten register or flag, in the order of the rule's pseudocode,
ends the instruction: the record names it and the instruction's address, has code 5, and nothing else
has changed but for what the pseudocode does before that read: an ALU operation, RL or RR has read the
byte at HL, and CCF has cleared N and H (43_alu8.md R284; 60_exceptions.md R407, R408, R418; the order
within one line, where the rotates read C, and that the record names a register and not its pair, is
log 21; that the step answers a next state is log 8). -/
def Obligations.UnwrittenReadIsLatched : Prop :=
  ∀ (i : Instr) (s : State) (before after : List RegName) (n : RegName), i.wf = true → i ≠ .prefixCb →
    s.config.resetRegs = .noValue → Spec.reads i s = before ++ n :: after →
    (∀ m ∈ before, Spec.isWritten s m = true) → Spec.isWritten s n = false →
    let hl := Spec.join s.h s.l
    let len := (encode i).length
    let memoryRead := Spec.readsMemoryFirst (Spec.opcode i) = true ∧ before.length ≥ 2
    let record := FaultRecord.unwrittenRead n
      (s.pc - BitVec.ofNat 16 (if s.halted then len - 1 else len))
    (memoryRead → s.reaches hl = true) →
    record.code = 5
      ∧ (memoryRead → exec i s = .next { s.afterLoad hl with fault := some record })
      ∧ (¬ memoryRead → exec i s = .next { Spec.writtenFirst i s with fault := some record })

/-! ## The Bus -/

/-- The translation table, with both echo modes; every offset is inside its device's window
(20_memory.md R61, R67, R96). -/
def Obligations.TranslationTable : Prop :=
  ∀ (m : EchoMode) (boot : Bool) (x : Word),
    let n := x.toNat
    (n ≤ 0x00FF → boot = true → translateAddress m boot x = (.lent .bootOverlay, n))
    ∧ (n ≤ 0x00FF → boot = false → translateAddress m boot x = (.cartridge, n))
    ∧ (0x0100 ≤ n → n ≤ 0x7FFF → translateAddress m boot x = (.cartridge, n))
    ∧ (0x8000 ≤ n → n ≤ 0x9FFF → translateAddress m boot x = (.lent .videoRam, n - 0x8000))
    ∧ (0xA000 ≤ n → n ≤ 0xBFFF → translateAddress m boot x = (.cartridge, n - 0xA000 + 0x8000))
    ∧ (0xC000 ≤ n → n ≤ 0xDFFF → translateAddress m boot x = (.workRam, n - 0xC000))
    ∧ (0xE000 ≤ n → n ≤ 0xFDFF → m = .trueMirror → translateAddress m boot x = (.workRam, n - 0xE000))
    ∧ (0xE000 ≤ n → n ≤ 0xEFFF → m = .sourceArith → (translateAddress m boot x).1 = .noMeaning)
    ∧ (0xF000 ≤ n → n ≤ 0xFDFF → m = .sourceArith → translateAddress m boot x = (.workRam, n - 0xF000))
    ∧ (0xFE00 ≤ n → n ≤ 0xFE9F → translateAddress m boot x = (.lent .oam, n - 0xFE00))
    ∧ (0xFEA0 ≤ n → n ≤ 0xFEFF → (translateAddress m boot x).1 = .dummy)
    ∧ (0xFF00 ≤ n → n ≤ 0xFF7F → translateAddress m boot x = (.lent .io, n - 0xFF00))
    ∧ (0xFF80 ≤ n → translateAddress m boot x = (.highRam, n - 0xFF80))
    ∧ (∀ k, translateAddress m boot x = (.lent .bootOverlay, k) → k ≤ 0xFF)
    ∧ (∀ k, translateAddress m boot x = (.lent .videoRam, k) → k ≤ 0x1FFF)
    ∧ (∀ k, translateAddress m boot x = (.lent .oam, k) → k ≤ 0x9F)
    ∧ (∀ k, translateAddress m boot x = (.lent .io, k) → k ≤ 0x7F)
    ∧ (∀ k, translateAddress m boot x = (.cartridge, k) → k ≤ 0x9FFF)

/-- Every access of exactly 0x0100, read or write, goes to the cartridge and clears `boot_active`; no
other access changes it, and no step sets it again (20_memory.md R72). -/
def Obligations.AccessOfHundredClearsBoot : Prop :=
  (∀ (s t : State) (x : Word) (v : Byte),
    (memRead x s = .next (v, t) ∨ memWrite x v s = .next t) →
    t.bootActive = (if x = 0x0100 then false else s.bootActive))
  ∧ (∀ s : State, s.target 0x0100 = (.cartridge, 0x0100))
  ∧ ∀ s t : State, step s = .next t → t.bootActive = true → s.bootActive = true

/-- With SOURCE_ARITH an access of 0xE000-0xEFFF, and no other, is refused; with TRUE_MIRROR none is
(20_memory.md R67, 60_exceptions.md R419). -/
def Obligations.OnlyTheSourceEchoIsRefused : Prop :=
  ∀ (s : State) (x : Word) (v : Byte),
    (s.config.echo = .sourceArith → 0xE000 ≤ x.toNat → x.toNat ≤ 0xEFFF →
      memRead x s = .refused (.echoWindow x) ∧ memWrite x v s = .refused (.echoWindow x))
    ∧ (s.config.echo = .trueMirror ∨ x.toNat < 0xE000 ∨ 0xEFFF < x.toNat →
      (∃ p, memRead x s = .next p) ∧ ∃ t, memWrite x v s = .next t)

/-- A byte written to work RAM, its echo or high RAM is the byte read there next, in either echo mode
where the address has a meaning; with TRUE_MIRROR an access of the echo is the access of the address
0x2000 below it, and with SOURCE_ARITH an access of 0xF000-0xFDFF that of the address 0x3000 below it
(20_memory.md R67, R76, R103). -/
def Obligations.RamReadsBackTheWrite : Prop :=
  ∀ (s : State) (x : Word) (v : Byte),
    (Spec.inRam x → (s.config.echo = .trueMirror ∨ x.toNat < 0xE000 ∨ 0xEFFF < x.toNat) →
      ∃ t u, memWrite x v s = .next t ∧ memRead x t = .next (v, u))
    ∧ (s.config.echo = .trueMirror → 0xE000 ≤ x.toNat → x.toNat ≤ 0xFDFF →
      memRead x s = memRead (x - 0x2000) s ∧ memWrite x v s = memWrite (x - 0x2000) v s)
    ∧ (s.config.echo = .sourceArith → 0xF000 ≤ x.toNat → x.toNat ≤ 0xFDFF →
      memRead x s = memRead (x - 0x3000) s ∧ memWrite x v s = memWrite (x - 0x3000) v s)

/-- A store at 0x8000 or above changes no byte but the one it reaches
(20_memory.md R74, R76, R91, R102). -/
def Obligations.StoreChangesOnlyItsByte : Prop :=
  ∀ (s t : State) (x y : Word) (v : Byte), 0x8000 ≤ x.toNat → memWrite x v s = .next t →
    s.target y ≠ s.target x → t.loadByte y = s.loadByte y

/-- A write to 0x0000-0x7FFF that reaches a type-1 cartridge writes one bank register and nothing
else of it (20_memory.md R87 to R90). -/
def Obligations.RomWritesSetABankRegister : Prop :=
  ∀ (s t : State) (c : Type1) (x : Word) (v : Byte), s.cart = .type1 c → memWrite x v s = .next t →
    x.toNat ≤ 0x7FFF → (s.bootActive = false ∨ 0x00FF < x.toNat) →
    let n := x.toNat
    let r5 := v.toNat % 32
    t = { s with
      bootActive := s.bootActive && decide (x ≠ 0x0100)
      cart := .type1 (
        if n ≤ 0x1FFF then { c with ramEnable := BitVec.ofNat 4 (v.toNat % 16) }
        else if n ≤ 0x3FFF then
          { c with romSelect := BitVec.ofNat 5 (if r5 = 0 then 1 else r5) }
        else if n ≤ 0x5FFF then { c with banksetSelect := BitVec.ofNat 2 (v.toNat % 4) }
        else { c with modeSelect := BitVec.ofNat 1 (v.toNat % 2) }) }

/-- What a read of the cartridge windows returns with a type-1 cartridge; slots 32, 64 and 96 hold
slot 0's bytes and the switchable window reaches none of slots 0, 32, 64, 96
(20_memory.md R84, R85, R86, R93). -/
def Obligations.Type1ReadWindows : Prop :=
  ∀ (s : State) (c : Type1) (x : Word), s.cart = .type1 c →
    let n := x.toNat
    let slot := if c.modeSelect = 0 then c.romSelect.toNat + 32 * c.banksetSelect.toNat
      else c.romSelect.toNat
    let bank := if c.modeSelect = 1 then c.banksetSelect.toNat else 0
    ((s.bootActive = false ∨ 0x00FF < n) → n ≤ 0x3FFF → s.loadByte x = c.slotByte 0 n)
    ∧ (0x4000 ≤ n → n ≤ 0x7FFF → s.loadByte x = c.slotByte slot (n - 0x4000))
    ∧ (0xA000 ≤ n → n ≤ 0xBFFF → c.ramEnable = 0xA → s.loadByte x = c.bankByte bank (n - 0xA000))
    ∧ (0xA000 ≤ n → n ≤ 0xBFFF → c.ramEnable ≠ 0xA → s.loadByte x = 0x00)
    ∧ (∀ k, k = 32 ∨ k = 64 ∨ k = 96 → ∀ o, c.slotByte k o = c.slotByte 0 o)
    ∧ (c.romSelect ≠ 0 → slot < 128 ∧ slot % 32 ≠ 0)

/-- A write to external RAM replaces one byte of the selected bank when RAM is enabled and is discarded
otherwise (20_memory.md R91, R92). -/
def Obligations.ExternalRamIsGated : Prop :=
  ∀ (s t : State) (c : Type1) (x : Word) (v : Byte), s.cart = .type1 c →
    0xA000 ≤ x.toNat → x.toNat ≤ 0xBFFF → memWrite x v s = .next t →
    (c.ramEnable ≠ 0xA → t = s)
    ∧ (c.ramEnable = 0xA → t.loadByte x = v ∧ ∃ m : Memory,
      t = { s with cart := .type1 { c with ram := m } }
      ∧ ∀ b o : Nat, o < 0x2000 → Type1.bankByte { c with ram := m } b o =
        (if b = (if c.modeSelect = 1 then c.banksetSelect.toNat else 0) ∧ o = x.toNat - 0xA000
          then v else c.bankByte b o))

/-- The Dummy cartridge and the range 0xFEA0-0xFEFF read 0x00 and discard writes
(20_memory.md R69, R82). -/
def Obligations.DummiesReadZero : Prop :=
  ∀ (s : State) (x : Word) (v : Byte),
    ((0xFEA0 ≤ x.toNat ∧ x.toNat ≤ 0xFEFF) ∨ ((s.target x).1 = .cartridge ∧ s.cart = .dummy)) →
    let t := { s with bootActive := s.bootActive && decide (x ≠ 0x0100) }
    memRead x s = .next (0x00, t) ∧ memWrite x v s = .next t

/-- A lent device's port: a read returns the promised byte if there is one and is followed by a new
free value; a write is recorded for the host and, by a device that keeps writes, kept
(20_memory.md R95, R97; the promise and the record are the model's form of `EXT_DEV`, log 5, log 6). -/
def Obligations.LentPorts : Prop :=
  ∀ (s : State) (x : Word) (v : Byte) (l : Lent) (n : Nat), s.target x = (.lent l, n) →
    ∃ b, memRead x s = .next (b, { s with draws := s.draws + 1 })
      ∧ (∀ w, (s.ports.get l).promised.read n = some w → b = w)
      ∧ ∃ t, memWrite x v s = .next t ∧ t.events = s.events ++ [⟨l, n, v⟩]
        ∧ (t.ports.get l).promised.read n =
          (if (s.ports.get l).keepsWrites then some v else (s.ports.get l).promised.read n)

/-! ## The whole machine -/

/-- With TRUE_MIRROR every instruction completes in every state, and every step without a latched
fault answers a next state (30_encoding.md R137, 60_exceptions.md R412, R419). That an illegal opcode,
a call in `UNIMPL_CCALL` or an unwritten read counts as such, its fault latched in the next state, is
the model's reading (log 8); so is that a parked step answers the same state (log 9). -/
def Obligations.EveryInstructionCompletes : Prop :=
  ∀ s : State, s.config.echo = .trueMirror →
    (∀ i : Instr, ∃ t, exec i s = .next t) ∧ (s.fault = none → ∃ t, step s = .next t)

/-- Every step from a state in form gives a state in form: canonical memories inside their sizes,
`rom_select` never zero, write events inside their windows, only a latchable record in the latch
(10_state.md R36, 20_memory.md R96, 60_exceptions.md R405). -/
def Obligations.StepKeepsTheForm : Prop :=
  ∀ s t : State, s.wf = true → step s = .next t → t.wf = true

/-- The reset state is in form. -/
def Obligations.ResetIsInForm : Prop := State.reset.wf = true

/-- No step clears `stopped`, `halted` or a written bit (10_state.md R27, R45). -/
def Obligations.OnlyResetUndoesStopAndHalt : Prop :=
  ∀ s t : State, step s = .next t →
    (s.stopped = true → t.stopped = true) ∧ (s.halted = true → t.halted = true)
    ∧ ∀ n : RegName, Spec.isWritten s n = true → Spec.isWritten t n = true

/-- No step changes the parameters, the cartridge in the slot or a byte of its ROM array
(10_state.md R33, R40, R43); nor the model's own fields that say which free values RAM holds, the
count of resets (log 3) and the cartridge's serial (log 4). -/
def Obligations.StepKeepsRomAndParameters : Prop :=
  ∀ s t : State, step s = .next t →
    t.config = s.config ∧ t.epoch = s.epoch
    ∧ (s.cart = .dummy → t.cart = .dummy)
    ∧ ∀ c : Type1, s.cart = .type1 c →
      ∃ c' : Type1, t.cart = .type1 c' ∧ c'.rom = c.rom ∧ c'.serial = c.serial

/-- A step latches a fault only for an illegal opcode or a call in `UNIMPL_CCALL` at pc, with that
opcode and that address, or, under NOVALUE, for a register or flag that is unwritten, with its name and
that address (60_exceptions.md R402, R408, R418). That the latching step answers next is log 8. -/
def Obligations.StepLatchesOnlyTwoFaults : Prop :=
  ∀ (s t : State) (r : FaultRecord), step s = .next t → t.fault = some r →
    (r = .illegalInstruction (s.loadByte s.pc) s.pc
      ∧ (s.loadByte s.pc ∈ Spec.illegal
        ∨ Spec.unimplemented s.config.unimplCcall (s.loadByte s.pc)))
    ∨ (s.config.resetRegs = .noValue
      ∧ ∃ n, r = .unwrittenRead n s.pc ∧ Spec.isWritten s n = false)

/-- IME is changed by DI, EI and RETI only, `stopped` by STOP, `halted` by HALT; a fault is raised by an
illegal opcode, a conditional call or, under NOVALUE, the read of what is unwritten only
(10_state.md R27; 60_exceptions.md R402, R411, R418). -/
def Obligations.ControlStateFrame : Prop :=
  ∀ (i : Instr) (s t : State), exec i s = .next t →
    (t.ime ≠ s.ime → i = .di ∨ i = .ei ∨ i = .reti)
    ∧ (t.stopped ≠ s.stopped → i = .stop) ∧ (t.halted ≠ s.halted → i = .halt)
    ∧ (t.fault ≠ s.fault → (∃ op, i = .illegal op) ∨ (∃ cc x, i = Instr.callCc cc x)
      ∨ (s.config.resetRegs = .noValue
        ∧ ∃ n x, t.fault = some (.unwrittenRead n x) ∧ Spec.isWritten s n = false))

/-! ## Frames -/

/-- An instruction writes no general register, and not SP, that its rule does not name, nor its written
bit (10_state.md R21, R25, R45); the prefix byte alone is the extended instruction it selects. -/
def Obligations.RegisterFrame : Prop :=
  ∀ (i : Instr) (s t : State), i ≠ .prefixCb → exec i s = .next t →
    (∀ r : Reg, r ∉ Spec.writtenRegs (Spec.opcode i) →
      t.getReg r = s.getReg r ∧ Spec.isWritten t (.reg r) = Spec.isWritten s (.reg r))
    ∧ (Spec.writesSp (Spec.opcode i) = false →
      t.sp = s.sp ∧ Spec.isWritten t .sp = Spec.isWritten s .sp)

/-- Every well-formed instruction keeps, clears and sets the flags as its row of the table of
10_state.md R23 says, and the written bits of those it does not keep (R45); an instruction that an
unwritten read ends changes no flag and no written bit of one, but that CCF has cleared N and H by then
(60_exceptions.md R407, R418; log 21). -/
def Obligations.FlagFrame : Prop :=
  ∀ (i : Instr) (s t : State), i.wf = true → i ≠ .prefixCb → exec i s = .next t →
    let row := Spec.flagRow (Spec.opcode i)
    (Spec.canRead s (Spec.reads i s) →
      row.1.holds s t .z Flags.z ∧ row.2.1.holds s t .n Flags.n
      ∧ row.2.2.1.holds s t .h Flags.h ∧ row.2.2.2.holds s t .c Flags.c)
    ∧ (¬ Spec.canRead s (Spec.reads i s) →
      let u := Spec.writtenFirst i s
      t.flags = u.flags ∧ ∀ f : FlagName, Spec.isWritten t (.flag f) = Spec.isWritten u (.flag f))

/-- Every byte that no lent device answers reads as before, unless the instruction stores to it, or it
is the cartridge's and the instruction stores to 0x0000-0x7FFF, where the bank registers are; a
lent device is written only by a store to it; and the cartridge, with its bank registers, is as
before when nothing is stored below 0x8000 or to external RAM (20_memory.md R74, R102, R107). -/
def Obligations.MemoryFrame : Prop :=
  ∀ (i : Instr) (s t : State), i ≠ .prefixCb → exec i s = .next t →
    (∀ y : Word, (∀ l, (s.target y).1 ≠ .lent l) →
      (∀ x ∈ Spec.storesTo i s, s.target y ≠ s.target x
        ∧ ((s.target y).1 = .cartridge → 0x8000 ≤ x.toNat)) →
      t.loadByte y = s.loadByte y)
    ∧ ((∀ x ∈ Spec.storesTo i s, ∀ l, (s.target x).1 ≠ .lent l) →
      t.ports = s.ports ∧ t.events = s.events)
    ∧ ((∀ x ∈ Spec.storesTo i s, 0x8000 ≤ x.toNat ∧ (s.target x).1 ≠ .cartridge) →
      t.cart = s.cart)

/-! ## The host's operations -/

/-- Construction: an empty image gives the Dummy; an image with no byte at 0x147, or a type that is not
in `TYPE1_IDS`, gives its error; otherwise a type-1 cartridge whose slot s holds the s-th 16 KiB of
the image, zero-filled, slots 32, 64 and 96 those of slot 0, whose registers are 0x0, 0x01, 0, 0 and
whose RAM is a draw (20_memory.md R79, R80, R81); that the draw is the free value of the cartridge's
serial is the model's form of it (log 4). -/
def Obligations.ConstructionOutcomes : Prop :=
  ∀ (config : Config) (serial : Nat) (img : List Byte),
    constructCartridge config serial [] = .ok .dummy
    ∧ (img ≠ [] → img.length ≤ 0x147 → constructCartridge config serial img =
      .error (.constructionError (.shortBuffer img.length)))
    ∧ (0x147 < img.length → img.getD 0x147 0 ∉ config.type1Ids →
      constructCartridge config serial img =
        .error (.constructionError (.unsupportedType (img.getD 0x147 0))))
    ∧ (0x147 < img.length → img.getD 0x147 0 ∈ config.type1Ids →
      ∃ c : Type1, constructCartridge config serial img = .ok (.type1 c)
        ∧ (Cartridge.type1 c).wf = true ∧ c.ramEnable = 0x0 ∧ c.romSelect = 0x01
        ∧ c.banksetSelect = 0 ∧ c.modeSelect = 0
        ∧ (∀ k o : Nat, k < 128 → o < 0x4000 → c.slotByte k o =
          img.getD ((if k = 32 ∨ k = 64 ∨ k = 96 then 0 else k) * 0x4000 + o) 0x00)
        ∧ ∀ b o : Nat, c.bankByte b o = Config.cartRamInit serial b o)

/-- A registry is built exactly when no identifier is claimed by two claims; otherwise the conflict names
an identifier claimed twice (20_memory.md R78, 60_exceptions.md R404). The rules speak of claims of two
variants: that two claims of the one variant are refused too is the model's choice (log 18). -/
def Obligations.RegistryRefusesASharedIdentifier : Prop :=
  ∀ claims : List Claim,
    ((∃ table, buildRegistry claims = .ok table) ↔
      claims.Pairwise fun x y => ∀ id ∈ x.ids, id ∉ y.ids)
    ∧ ∀ r, buildRegistry claims = .error r → ∃ id x y, r = .registrationConflict id
      ∧ [x, y].Sublist claims ∧ id ∈ x.ids ∧ id ∈ y.ids

/-- Loading and unloading replace the cartridge and nothing else, and after unloading the cartridge's
windows read 0x00; reset gives the values of 70_reset_and_hazards.md R450 over the lent devices
passed in, with no written bit set (20_memory.md R77, 10_state.md R45). The registers, flags and SP
at reset are the model's choice (log 1) and are not stated. -/
def Obligations.HostOperations : Prop :=
  ∀ (s : State) (c : Cartridge) (devices : Ports),
    s.loadCartridge c = { s with cart := c } ∧ s.unloadCartridge = { s with cart := .dummy }
    ∧ (∀ x : Word, (s.target x).1 = .cartridge → s.unloadCartridge.loadByte x = 0x00)
    ∧ let t := s.hostReset devices
      t.pc = 0x0000 ∧ t.stopped = false ∧ t.halted = false ∧ t.ime = false ∧ t.fault = none
      ∧ t.bootActive = true ∧ t.cart = .dummy ∧ t.ports = devices
      ∧ (∀ n : RegName, Spec.isWritten t n = false)
      ∧ t.loadByte 0x0000 = t.lentByte .bootOverlay 0x00

/-- An address outside 0x0000-0xFFFF at the Bus, or outside 0x0000-0x9FFF at the type-1 controller, is
an InvalidAddress and is not clamped; an address inside is the ordinary access
(20_memory.md R75, R83; 60_exceptions.md R400, R401). -/
def Obligations.InvalidAddressesAreFaults : Prop :=
  ∀ (s : State) (c : Type1) (n : Nat) (v : Byte),
    (0xFFFF < n → busReadChecked n s = .error (.invalidAddress .bus .read n)
      ∧ busWriteChecked n v s = .error (.invalidAddress .bus .write n))
    ∧ (n ≤ 0xFFFF → busReadChecked n s = .ok (memRead (BitVec.ofNat 16 n) s)
      ∧ busWriteChecked n v s = .ok (memWrite (BitVec.ofNat 16 n) v s))
    ∧ (0x9FFF < n →
      (Cartridge.type1 c).readChecked n = .error (.invalidAddress .cartridge .read n)
      ∧ (Cartridge.type1 c).writeChecked n v = .error (.invalidAddress .cartridge .write n))
    ∧ (n ≤ 0x9FFF → (Cartridge.type1 c).readChecked n = .ok (c.read n)
      ∧ (Cartridge.type1 c).writeChecked n v = .ok (.type1 (c.write n v)))
    ∧ ∀ (site : Site) (access : Access), (FaultRecord.invalidAddress site access n).code = 1
end

