-- ==== Sys2Proof/Laws/Memory.lean ====
section
/-! SUPPORT. The laws of a memory: read after write, and the canonical form kept. -/

namespace Sys2Proof.Machine

@[simp] theorem Memory.read_nil (a : Nat) : Memory.read [] a = none := rfl

theorem Memory.read_write_same (m : Memory) (a : Nat) (v : Byte) :
    (m.write a v).read a = some v := by
  induction m with
  | nil => simp [Memory.write, Memory.read]
  | cons c m ih =>
    simp only [Memory.write]
    split
    · simp [Memory.read]
    · split
      · simp [Memory.read]
      · simp [Memory.read, *]

theorem Memory.read_write_other (m : Memory) {a b : Nat} (v : Byte) (h : b ≠ a) :
    (m.write a v).read b = m.read b := by
  induction m with
  | nil => simp [Memory.write, Memory.read, h]
  | cons c m ih =>
    simp only [Memory.write]
    split
    · simp [Memory.read, h]
    · split
      · rename_i _ e; subst e; simp [Memory.read, h]
      · simp [Memory.read, ih]

/-- A key below every listed key is not listed. -/
theorem Memory.read_below {m : Memory} {low a : Nat} (hm : m.sortedFrom low = true) (h : a < low) :
    m.read a = none := by
  induction m generalizing low with
  | nil => rfl
  | cons c m ih =>
    simp only [Memory.sortedFrom, Bool.and_eq_true, decide_eq_true_eq] at hm
    have hne : a ≠ c.1 := by omega
    simp [Memory.read, hne, ih hm.2 (by omega)]

theorem Memory.read_erase_same {m : Memory} {low : Nat} (hm : m.sortedFrom low = true) (a : Nat) :
    (m.erase a).read a = none := by
  induction m generalizing low with
  | nil => rfl
  | cons c m ih =>
    simp only [Memory.sortedFrom, Bool.and_eq_true, decide_eq_true_eq] at hm
    simp only [Memory.erase]
    split
    · rename_i e; exact Memory.read_below hm.2 (by omega)
    · rename_i e; simp [Memory.read, e, ih hm.2]

theorem Memory.read_erase_other (m : Memory) {a b : Nat} (h : b ≠ a) :
    (m.erase a).read b = m.read b := by
  induction m with
  | nil => rfl
  | cons c m ih =>
    simp only [Memory.erase]
    split
    · rename_i e; subst e; simp [Memory.read, h]
    · simp [Memory.read, ih]

/-- Reading another key after a store. -/
theorem Memory.read_store_other (u : Option Byte) (m : Memory) {a b : Nat} (v : Byte) (h : b ≠ a) :
    (m.store u a v).read b = m.read b := by
  simp only [Memory.store]
  split
  · exact m.read_erase_other h
  · exact m.read_write_other v h

/-- Reading the stored key of a RAM after a store. -/
@[simp] theorem Memory.read_storeRam_same (m : Memory) (a : Nat) (v : Byte) :
    (m.store unlistedRam a v).read a = some v := by
  simp [Memory.store, unlistedRam, Memory.read_write_same]

/-- Reading the stored key after a store, with what an unlisted key holds filled in. -/
theorem Memory.read_store_same {u : Option Byte} {m : Memory} {low : Nat}
    (hm : m.sortedFrom low = true) (a : Nat) (v : Byte) :
    ((m.store u a v).read a).or u = some v := by
  simp only [Memory.store]
  split
  · rename_i e; simp [Memory.read_erase_same hm, e]
  · simp [Memory.read_write_same]

/-! ## The canonical form -/

theorem Memory.sortedFrom_mono {m : Memory} {low low' : Nat} (hm : m.sortedFrom low = true)
    (h : low' ≤ low) : m.sortedFrom low' = true := by
  cases m with
  | nil => rfl
  | cons c m =>
    simp only [Memory.sortedFrom, Bool.and_eq_true, decide_eq_true_eq] at hm ⊢
    exact ⟨by omega, hm.2⟩

theorem Memory.sortedFrom_write {m : Memory} {low a : Nat} (v : Byte)
    (hm : m.sortedFrom low = true) (h : low ≤ a) : (m.write a v).sortedFrom low = true := by
  induction m generalizing low with
  | nil => simp [Memory.write, Memory.sortedFrom, h]
  | cons c m ih =>
    obtain ⟨k, w⟩ := c
    simp only [Memory.sortedFrom, Bool.and_eq_true, decide_eq_true_eq] at hm
    simp only [Memory.write]
    split
    · simp only [Memory.sortedFrom, Bool.and_eq_true, decide_eq_true_eq]
      exact ⟨h, by omega, hm.2⟩
    · split
      · rename_i _ e; subst e
        simp only [Memory.sortedFrom, Bool.and_eq_true, decide_eq_true_eq]
        exact ⟨h, hm.2⟩
      · simp only [Memory.sortedFrom, Bool.and_eq_true, decide_eq_true_eq]
        exact ⟨hm.1, ih hm.2 (by omega)⟩

theorem Memory.sortedFrom_erase {m : Memory} {low : Nat} (a : Nat)
    (hm : m.sortedFrom low = true) : (m.erase a).sortedFrom low = true := by
  induction m generalizing low with
  | nil => rfl
  | cons c m ih =>
    simp only [Memory.sortedFrom, Bool.and_eq_true, decide_eq_true_eq] at hm
    simp only [Memory.erase]
    split
    · exact Memory.sortedFrom_mono hm.2 (by omega)
    · simp only [Memory.sortedFrom, Bool.and_eq_true, decide_eq_true_eq]
      exact ⟨hm.1, ih hm.2⟩

theorem Memory.mem_write {m : Memory} {a : Nat} {v : Byte} {c : Host.Cell}
    (h : c ∈ m.write a v) : c = (a, v) ∨ c ∈ m := by
  induction m with
  | nil => simpa [Memory.write] using h
  | cons d m ih =>
    simp only [Memory.write] at h
    split at h
    · simpa using h
    · split at h
      · rcases List.mem_cons.1 h with h | h
        · exact .inl h
        · exact .inr (List.mem_cons_of_mem _ h)
      · rcases List.mem_cons.1 h with h | h
        · exact .inr (by simp [h])
        · rcases ih h with h | h
          · exact .inl h
          · exact .inr (List.mem_cons_of_mem _ h)

theorem Memory.mem_erase {m : Memory} {a : Nat} {c : Host.Cell} (h : c ∈ m.erase a) : c ∈ m := by
  induction m with
  | nil => exact h
  | cons d m ih =>
    simp only [Memory.erase] at h
    split at h
    · exact List.mem_cons_of_mem _ h
    · rcases List.mem_cons.1 h with h | h
      · simp [h]
      · exact List.mem_cons_of_mem _ (ih h)

/-- The canonical form, as a proposition. -/
theorem Memory.wf_iff {size : Nat} {u : Option Byte} {m : Memory} :
    Memory.wf size u m = true ↔
      m.sortedFrom 0 = true ∧ ∀ c ∈ m, c.1 < size ∧ some c.2 ≠ u := by
  simp [Memory.wf, Bool.and_eq_true]

@[simp] theorem Memory.wf_nil (size : Nat) (u : Option Byte) : Memory.wf size u [] = true := rfl

/-- A store keeps the canonical form. -/
theorem Memory.wf_store {size : Nat} {u : Option Byte} {m : Memory} {a : Nat} (v : Byte)
    (hm : Memory.wf size u m = true) (ha : a < size) : Memory.wf size u (m.store u a v) = true := by
  rw [Memory.wf_iff] at hm ⊢
  simp only [Memory.store]
  split
  · exact ⟨Memory.sortedFrom_erase a hm.1, fun c hc => hm.2 c (Memory.mem_erase hc)⟩
  · rename_i hv
    refine ⟨Memory.sortedFrom_write v hm.1 (Nat.zero_le _), fun c hc => ?_⟩
    rcases Memory.mem_write hc with h | h
    · subst h; exact ⟨ha, hv⟩
    · exact hm.2 c h

end Sys2Proof.Machine
end

