-- ==== Sys2Proof/Laws/Cartridge.lean ====
section
/-! SUPPORT. The cartridge: what a write changes, and the form kept. -/

namespace Sys2Proof.Machine

variable (t : Type1)

/-- A write never changes the ROM array. -/
@[simp] theorem Type1.write_rom (n : Nat) (v : Byte) : (t.write n v).rom = t.rom := by
  simp only [Type1.write]; repeat' split
  all_goals rfl

/-- A write never changes the number of the construction. -/
@[simp] theorem Type1.write_serial (n : Nat) (v : Byte) : (t.write n v).serial = t.serial := by
  simp only [Type1.write]; repeat' split
  all_goals rfl

theorem clampRomSelect_ne_zero (v : Byte) : clampRomSelect v ≠ 0 := by
  simp only [clampRomSelect]
  split
  · decide
  · assumption

theorem Type1.ramBank_lt : t.ramBank < 4 := by
  simp only [Type1.ramBank]
  split
  · exact t.banksetSelect.isLt
  · omega

/-- A write keeps a cartridge in form. -/
theorem Cartridge.wf_write {c : Cartridge} {n : Nat} (v : Byte) (hc : c.wf = true) (hn : n < 0xA000) :
    (c.write n v).wf = true := by
  cases c with
  | dummy => rfl
  | type1 t =>
    simp only [Cartridge.wf, Cartridge.write, Bool.and_eq_true, Type1.write_rom] at hc ⊢
    refine ⟨⟨hc.1.1, ?_⟩, ?_⟩
    · simp only [Type1.write]
      split
      · exact hc.1.2
      · split
        · exact hc.1.2
        · split
          · exact hc.1.2
          · split
            · exact hc.1.2
            · split
              · have := t.ramBank_lt
                exact Memory.wf_store v hc.1.2 (by simp only [ramKey, ramBanks, ramBankSize]; omega)
              · exact hc.1.2
    · simp only [decide_eq_true_eq] at hc ⊢
      simp only [Type1.write]
      split
      · exact hc.2
      · split
        · exact clampRomSelect_ne_zero v
        · repeat' split
          all_goals exact hc.2

/-- The byte of a RAM bank after a write into enabled RAM. -/
theorem Type1.bankByte_storeRam (bank offset b o : Nat) (v : Byte) (ho : offset < ramBankSize)
    (ho' : o < ramBankSize) :
    Type1.bankByte { t with ram := t.ram.store unlistedRam (ramKey bank offset) v } b o =
      if b = bank ∧ o = offset then v else t.bankByte b o := by
  have hk : ramKey b o = ramKey bank offset ↔ b = bank ∧ o = offset := by
    simp only [ramKey, ramBankSize] at *; omega
  by_cases h : b = bank ∧ o = offset
  · simp only [Type1.bankByte, Memory.read_storeRam_same, h, and_self, if_true]
  · simp only [Type1.bankByte, Memory.read_store_other unlistedRam t.ram v (fun e => h (hk.1 e)), h,
      if_false]

end Sys2Proof.Machine
end

