-- ==== Sys2Proof/Laws/State.lean ====
section
/-! SUPPORT. One lemma per field of State per update, and the reads that an update leaves alone. -/

namespace Sys2Proof.Machine

variable (s : State)

@[simp] theorem State.setBc_a (v : Word) : (s.setBc v).a = s.a := rfl
@[simp] theorem State.setBc_b (v : Word) : (s.setBc v).b = highByte v := rfl
@[simp] theorem State.setBc_c (v : Word) : (s.setBc v).c = lowByte v := rfl
@[simp] theorem State.setBc_d (v : Word) : (s.setBc v).d = s.d := rfl
@[simp] theorem State.setBc_e (v : Word) : (s.setBc v).e = s.e := rfl
@[simp] theorem State.setBc_h (v : Word) : (s.setBc v).h = s.h := rfl
@[simp] theorem State.setBc_l (v : Word) : (s.setBc v).l = s.l := rfl
@[simp] theorem State.setBc_flags (v : Word) : (s.setBc v).flags = s.flags := rfl
@[simp] theorem State.setBc_sp (v : Word) : (s.setBc v).sp = s.sp := rfl
@[simp] theorem State.setBc_written (v : Word) : (s.setBc v).written = (s.written.mark (.reg .b)).mark (.reg .c) := rfl
@[simp] theorem State.setBc_pc (v : Word) : (s.setBc v).pc = s.pc := rfl
@[simp] theorem State.setBc_stopped (v : Word) : (s.setBc v).stopped = s.stopped := rfl
@[simp] theorem State.setBc_halted (v : Word) : (s.setBc v).halted = s.halted := rfl
@[simp] theorem State.setBc_ime (v : Word) : (s.setBc v).ime = s.ime := rfl
@[simp] theorem State.setBc_fault (v : Word) : (s.setBc v).fault = s.fault := rfl
@[simp] theorem State.setBc_bootActive (v : Word) : (s.setBc v).bootActive = s.bootActive := rfl
@[simp] theorem State.setBc_workRam (v : Word) : (s.setBc v).workRam = s.workRam := rfl
@[simp] theorem State.setBc_highRam (v : Word) : (s.setBc v).highRam = s.highRam := rfl
@[simp] theorem State.setBc_cart (v : Word) : (s.setBc v).cart = s.cart := rfl
@[simp] theorem State.setBc_ports (v : Word) : (s.setBc v).ports = s.ports := rfl
@[simp] theorem State.setBc_events (v : Word) : (s.setBc v).events = s.events := rfl
@[simp] theorem State.setBc_draws (v : Word) : (s.setBc v).draws = s.draws := rfl
@[simp] theorem State.setBc_epoch (v : Word) : (s.setBc v).epoch = s.epoch := rfl
@[simp] theorem State.setBc_config (v : Word) : (s.setBc v).config = s.config := rfl

@[simp] theorem State.setDe_a (v : Word) : (s.setDe v).a = s.a := rfl
@[simp] theorem State.setDe_b (v : Word) : (s.setDe v).b = s.b := rfl
@[simp] theorem State.setDe_c (v : Word) : (s.setDe v).c = s.c := rfl
@[simp] theorem State.setDe_d (v : Word) : (s.setDe v).d = highByte v := rfl
@[simp] theorem State.setDe_e (v : Word) : (s.setDe v).e = lowByte v := rfl
@[simp] theorem State.setDe_h (v : Word) : (s.setDe v).h = s.h := rfl
@[simp] theorem State.setDe_l (v : Word) : (s.setDe v).l = s.l := rfl
@[simp] theorem State.setDe_flags (v : Word) : (s.setDe v).flags = s.flags := rfl
@[simp] theorem State.setDe_sp (v : Word) : (s.setDe v).sp = s.sp := rfl
@[simp] theorem State.setDe_written (v : Word) : (s.setDe v).written = (s.written.mark (.reg .d)).mark (.reg .e) := rfl
@[simp] theorem State.setDe_pc (v : Word) : (s.setDe v).pc = s.pc := rfl
@[simp] theorem State.setDe_stopped (v : Word) : (s.setDe v).stopped = s.stopped := rfl
@[simp] theorem State.setDe_halted (v : Word) : (s.setDe v).halted = s.halted := rfl
@[simp] theorem State.setDe_ime (v : Word) : (s.setDe v).ime = s.ime := rfl
@[simp] theorem State.setDe_fault (v : Word) : (s.setDe v).fault = s.fault := rfl
@[simp] theorem State.setDe_bootActive (v : Word) : (s.setDe v).bootActive = s.bootActive := rfl
@[simp] theorem State.setDe_workRam (v : Word) : (s.setDe v).workRam = s.workRam := rfl
@[simp] theorem State.setDe_highRam (v : Word) : (s.setDe v).highRam = s.highRam := rfl
@[simp] theorem State.setDe_cart (v : Word) : (s.setDe v).cart = s.cart := rfl
@[simp] theorem State.setDe_ports (v : Word) : (s.setDe v).ports = s.ports := rfl
@[simp] theorem State.setDe_events (v : Word) : (s.setDe v).events = s.events := rfl
@[simp] theorem State.setDe_draws (v : Word) : (s.setDe v).draws = s.draws := rfl
@[simp] theorem State.setDe_epoch (v : Word) : (s.setDe v).epoch = s.epoch := rfl
@[simp] theorem State.setDe_config (v : Word) : (s.setDe v).config = s.config := rfl

@[simp] theorem State.setHl_a (v : Word) : (s.setHl v).a = s.a := rfl
@[simp] theorem State.setHl_b (v : Word) : (s.setHl v).b = s.b := rfl
@[simp] theorem State.setHl_c (v : Word) : (s.setHl v).c = s.c := rfl
@[simp] theorem State.setHl_d (v : Word) : (s.setHl v).d = s.d := rfl
@[simp] theorem State.setHl_e (v : Word) : (s.setHl v).e = s.e := rfl
@[simp] theorem State.setHl_h (v : Word) : (s.setHl v).h = highByte v := rfl
@[simp] theorem State.setHl_l (v : Word) : (s.setHl v).l = lowByte v := rfl
@[simp] theorem State.setHl_flags (v : Word) : (s.setHl v).flags = s.flags := rfl
@[simp] theorem State.setHl_sp (v : Word) : (s.setHl v).sp = s.sp := rfl
@[simp] theorem State.setHl_written (v : Word) : (s.setHl v).written = (s.written.mark (.reg .h)).mark (.reg .l) := rfl
@[simp] theorem State.setHl_pc (v : Word) : (s.setHl v).pc = s.pc := rfl
@[simp] theorem State.setHl_stopped (v : Word) : (s.setHl v).stopped = s.stopped := rfl
@[simp] theorem State.setHl_halted (v : Word) : (s.setHl v).halted = s.halted := rfl
@[simp] theorem State.setHl_ime (v : Word) : (s.setHl v).ime = s.ime := rfl
@[simp] theorem State.setHl_fault (v : Word) : (s.setHl v).fault = s.fault := rfl
@[simp] theorem State.setHl_bootActive (v : Word) : (s.setHl v).bootActive = s.bootActive := rfl
@[simp] theorem State.setHl_workRam (v : Word) : (s.setHl v).workRam = s.workRam := rfl
@[simp] theorem State.setHl_highRam (v : Word) : (s.setHl v).highRam = s.highRam := rfl
@[simp] theorem State.setHl_cart (v : Word) : (s.setHl v).cart = s.cart := rfl
@[simp] theorem State.setHl_ports (v : Word) : (s.setHl v).ports = s.ports := rfl
@[simp] theorem State.setHl_events (v : Word) : (s.setHl v).events = s.events := rfl
@[simp] theorem State.setHl_draws (v : Word) : (s.setHl v).draws = s.draws := rfl
@[simp] theorem State.setHl_epoch (v : Word) : (s.setHl v).epoch = s.epoch := rfl
@[simp] theorem State.setHl_config (v : Word) : (s.setHl v).config = s.config := rfl

@[simp] theorem State.setSp_a (v : Word) : (s.setSp v).a = s.a := rfl
@[simp] theorem State.setSp_b (v : Word) : (s.setSp v).b = s.b := rfl
@[simp] theorem State.setSp_c (v : Word) : (s.setSp v).c = s.c := rfl
@[simp] theorem State.setSp_d (v : Word) : (s.setSp v).d = s.d := rfl
@[simp] theorem State.setSp_e (v : Word) : (s.setSp v).e = s.e := rfl
@[simp] theorem State.setSp_h (v : Word) : (s.setSp v).h = s.h := rfl
@[simp] theorem State.setSp_l (v : Word) : (s.setSp v).l = s.l := rfl
@[simp] theorem State.setSp_flags (v : Word) : (s.setSp v).flags = s.flags := rfl
@[simp] theorem State.setSp_sp (v : Word) : (s.setSp v).sp = v := rfl
@[simp] theorem State.setSp_written (v : Word) : (s.setSp v).written = s.written.mark .sp := rfl
@[simp] theorem State.setSp_pc (v : Word) : (s.setSp v).pc = s.pc := rfl
@[simp] theorem State.setSp_stopped (v : Word) : (s.setSp v).stopped = s.stopped := rfl
@[simp] theorem State.setSp_halted (v : Word) : (s.setSp v).halted = s.halted := rfl
@[simp] theorem State.setSp_ime (v : Word) : (s.setSp v).ime = s.ime := rfl
@[simp] theorem State.setSp_fault (v : Word) : (s.setSp v).fault = s.fault := rfl
@[simp] theorem State.setSp_bootActive (v : Word) : (s.setSp v).bootActive = s.bootActive := rfl
@[simp] theorem State.setSp_workRam (v : Word) : (s.setSp v).workRam = s.workRam := rfl
@[simp] theorem State.setSp_highRam (v : Word) : (s.setSp v).highRam = s.highRam := rfl
@[simp] theorem State.setSp_cart (v : Word) : (s.setSp v).cart = s.cart := rfl
@[simp] theorem State.setSp_ports (v : Word) : (s.setSp v).ports = s.ports := rfl
@[simp] theorem State.setSp_events (v : Word) : (s.setSp v).events = s.events := rfl
@[simp] theorem State.setSp_draws (v : Word) : (s.setSp v).draws = s.draws := rfl
@[simp] theorem State.setSp_epoch (v : Word) : (s.setSp v).epoch = s.epoch := rfl
@[simp] theorem State.setSp_config (v : Word) : (s.setSp v).config = s.config := rfl

@[simp] theorem State.setPc_a (v : Word) : (s.setPc v).a = s.a := rfl
@[simp] theorem State.setPc_b (v : Word) : (s.setPc v).b = s.b := rfl
@[simp] theorem State.setPc_c (v : Word) : (s.setPc v).c = s.c := rfl
@[simp] theorem State.setPc_d (v : Word) : (s.setPc v).d = s.d := rfl
@[simp] theorem State.setPc_e (v : Word) : (s.setPc v).e = s.e := rfl
@[simp] theorem State.setPc_h (v : Word) : (s.setPc v).h = s.h := rfl
@[simp] theorem State.setPc_l (v : Word) : (s.setPc v).l = s.l := rfl
@[simp] theorem State.setPc_flags (v : Word) : (s.setPc v).flags = s.flags := rfl
@[simp] theorem State.setPc_sp (v : Word) : (s.setPc v).sp = s.sp := rfl
@[simp] theorem State.setPc_written (v : Word) : (s.setPc v).written = s.written := rfl
@[simp] theorem State.setPc_pc (v : Word) : (s.setPc v).pc = v := rfl
@[simp] theorem State.setPc_stopped (v : Word) : (s.setPc v).stopped = s.stopped := rfl
@[simp] theorem State.setPc_halted (v : Word) : (s.setPc v).halted = s.halted := rfl
@[simp] theorem State.setPc_ime (v : Word) : (s.setPc v).ime = s.ime := rfl
@[simp] theorem State.setPc_fault (v : Word) : (s.setPc v).fault = s.fault := rfl
@[simp] theorem State.setPc_bootActive (v : Word) : (s.setPc v).bootActive = s.bootActive := rfl
@[simp] theorem State.setPc_workRam (v : Word) : (s.setPc v).workRam = s.workRam := rfl
@[simp] theorem State.setPc_highRam (v : Word) : (s.setPc v).highRam = s.highRam := rfl
@[simp] theorem State.setPc_cart (v : Word) : (s.setPc v).cart = s.cart := rfl
@[simp] theorem State.setPc_ports (v : Word) : (s.setPc v).ports = s.ports := rfl
@[simp] theorem State.setPc_events (v : Word) : (s.setPc v).events = s.events := rfl
@[simp] theorem State.setPc_draws (v : Word) : (s.setPc v).draws = s.draws := rfl
@[simp] theorem State.setPc_epoch (v : Word) : (s.setPc v).epoch = s.epoch := rfl
@[simp] theorem State.setPc_config (v : Word) : (s.setPc v).config = s.config := rfl

@[simp] theorem State.writeFlags_a (w : FlagWrites) : (s.writeFlags w).a = s.a := rfl
@[simp] theorem State.writeFlags_b (w : FlagWrites) : (s.writeFlags w).b = s.b := rfl
@[simp] theorem State.writeFlags_c (w : FlagWrites) : (s.writeFlags w).c = s.c := rfl
@[simp] theorem State.writeFlags_d (w : FlagWrites) : (s.writeFlags w).d = s.d := rfl
@[simp] theorem State.writeFlags_e (w : FlagWrites) : (s.writeFlags w).e = s.e := rfl
@[simp] theorem State.writeFlags_h (w : FlagWrites) : (s.writeFlags w).h = s.h := rfl
@[simp] theorem State.writeFlags_l (w : FlagWrites) : (s.writeFlags w).l = s.l := rfl
@[simp] theorem State.writeFlags_flags (w : FlagWrites) : (s.writeFlags w).flags = w.over s.flags := rfl
@[simp] theorem State.writeFlags_sp (w : FlagWrites) : (s.writeFlags w).sp = s.sp := rfl
@[simp] theorem State.writeFlags_written (w : FlagWrites) : (s.writeFlags w).written = w.marks s.written := rfl
@[simp] theorem State.writeFlags_pc (w : FlagWrites) : (s.writeFlags w).pc = s.pc := rfl
@[simp] theorem State.writeFlags_stopped (w : FlagWrites) : (s.writeFlags w).stopped = s.stopped := rfl
@[simp] theorem State.writeFlags_halted (w : FlagWrites) : (s.writeFlags w).halted = s.halted := rfl
@[simp] theorem State.writeFlags_ime (w : FlagWrites) : (s.writeFlags w).ime = s.ime := rfl
@[simp] theorem State.writeFlags_fault (w : FlagWrites) : (s.writeFlags w).fault = s.fault := rfl
@[simp] theorem State.writeFlags_bootActive (w : FlagWrites) : (s.writeFlags w).bootActive = s.bootActive := rfl
@[simp] theorem State.writeFlags_workRam (w : FlagWrites) : (s.writeFlags w).workRam = s.workRam := rfl
@[simp] theorem State.writeFlags_highRam (w : FlagWrites) : (s.writeFlags w).highRam = s.highRam := rfl
@[simp] theorem State.writeFlags_cart (w : FlagWrites) : (s.writeFlags w).cart = s.cart := rfl
@[simp] theorem State.writeFlags_ports (w : FlagWrites) : (s.writeFlags w).ports = s.ports := rfl
@[simp] theorem State.writeFlags_events (w : FlagWrites) : (s.writeFlags w).events = s.events := rfl
@[simp] theorem State.writeFlags_draws (w : FlagWrites) : (s.writeFlags w).draws = s.draws := rfl
@[simp] theorem State.writeFlags_epoch (w : FlagWrites) : (s.writeFlags w).epoch = s.epoch := rfl
@[simp] theorem State.writeFlags_config (w : FlagWrites) : (s.writeFlags w).config = s.config := rfl

@[simp] theorem State.setFlags_a (f : Flags) : (s.setFlags f).a = s.a := rfl
@[simp] theorem State.setFlags_b (f : Flags) : (s.setFlags f).b = s.b := rfl
@[simp] theorem State.setFlags_c (f : Flags) : (s.setFlags f).c = s.c := rfl
@[simp] theorem State.setFlags_d (f : Flags) : (s.setFlags f).d = s.d := rfl
@[simp] theorem State.setFlags_e (f : Flags) : (s.setFlags f).e = s.e := rfl
@[simp] theorem State.setFlags_h (f : Flags) : (s.setFlags f).h = s.h := rfl
@[simp] theorem State.setFlags_l (f : Flags) : (s.setFlags f).l = s.l := rfl
@[simp] theorem State.setFlags_flags (f : Flags) : (s.setFlags f).flags = f := rfl
@[simp] theorem State.setFlags_sp (f : Flags) : (s.setFlags f).sp = s.sp := rfl
@[simp] theorem State.setFlags_written (f : Flags) : (s.setFlags f).written =
    { s.written with zf := true, nf := true, hf := true, cf := true } := by
  simp [State.setFlags, State.writeFlags, FlagWrites.marks]
@[simp] theorem State.setFlags_pc (f : Flags) : (s.setFlags f).pc = s.pc := rfl
@[simp] theorem State.setFlags_stopped (f : Flags) : (s.setFlags f).stopped = s.stopped := rfl
@[simp] theorem State.setFlags_halted (f : Flags) : (s.setFlags f).halted = s.halted := rfl
@[simp] theorem State.setFlags_ime (f : Flags) : (s.setFlags f).ime = s.ime := rfl
@[simp] theorem State.setFlags_fault (f : Flags) : (s.setFlags f).fault = s.fault := rfl
@[simp] theorem State.setFlags_bootActive (f : Flags) : (s.setFlags f).bootActive = s.bootActive := rfl
@[simp] theorem State.setFlags_workRam (f : Flags) : (s.setFlags f).workRam = s.workRam := rfl
@[simp] theorem State.setFlags_highRam (f : Flags) : (s.setFlags f).highRam = s.highRam := rfl
@[simp] theorem State.setFlags_cart (f : Flags) : (s.setFlags f).cart = s.cart := rfl
@[simp] theorem State.setFlags_ports (f : Flags) : (s.setFlags f).ports = s.ports := rfl
@[simp] theorem State.setFlags_events (f : Flags) : (s.setFlags f).events = s.events := rfl
@[simp] theorem State.setFlags_draws (f : Flags) : (s.setFlags f).draws = s.draws := rfl
@[simp] theorem State.setFlags_epoch (f : Flags) : (s.setFlags f).epoch = s.epoch := rfl
@[simp] theorem State.setFlags_config (f : Flags) : (s.setFlags f).config = s.config := rfl

@[simp] theorem State.setStopped_a : (s.setStopped).a = s.a := rfl
@[simp] theorem State.setStopped_b : (s.setStopped).b = s.b := rfl
@[simp] theorem State.setStopped_c : (s.setStopped).c = s.c := rfl
@[simp] theorem State.setStopped_d : (s.setStopped).d = s.d := rfl
@[simp] theorem State.setStopped_e : (s.setStopped).e = s.e := rfl
@[simp] theorem State.setStopped_h : (s.setStopped).h = s.h := rfl
@[simp] theorem State.setStopped_l : (s.setStopped).l = s.l := rfl
@[simp] theorem State.setStopped_flags : (s.setStopped).flags = s.flags := rfl
@[simp] theorem State.setStopped_sp : (s.setStopped).sp = s.sp := rfl
@[simp] theorem State.setStopped_written : (s.setStopped).written = s.written := rfl
@[simp] theorem State.setStopped_pc : (s.setStopped).pc = s.pc := rfl
@[simp] theorem State.setStopped_stopped : (s.setStopped).stopped = true := rfl
@[simp] theorem State.setStopped_halted : (s.setStopped).halted = s.halted := rfl
@[simp] theorem State.setStopped_ime : (s.setStopped).ime = s.ime := rfl
@[simp] theorem State.setStopped_fault : (s.setStopped).fault = s.fault := rfl
@[simp] theorem State.setStopped_bootActive : (s.setStopped).bootActive = s.bootActive := rfl
@[simp] theorem State.setStopped_workRam : (s.setStopped).workRam = s.workRam := rfl
@[simp] theorem State.setStopped_highRam : (s.setStopped).highRam = s.highRam := rfl
@[simp] theorem State.setStopped_cart : (s.setStopped).cart = s.cart := rfl
@[simp] theorem State.setStopped_ports : (s.setStopped).ports = s.ports := rfl
@[simp] theorem State.setStopped_events : (s.setStopped).events = s.events := rfl
@[simp] theorem State.setStopped_draws : (s.setStopped).draws = s.draws := rfl
@[simp] theorem State.setStopped_epoch : (s.setStopped).epoch = s.epoch := rfl
@[simp] theorem State.setStopped_config : (s.setStopped).config = s.config := rfl

@[simp] theorem State.setHalted_a : (s.setHalted).a = s.a := rfl
@[simp] theorem State.setHalted_b : (s.setHalted).b = s.b := rfl
@[simp] theorem State.setHalted_c : (s.setHalted).c = s.c := rfl
@[simp] theorem State.setHalted_d : (s.setHalted).d = s.d := rfl
@[simp] theorem State.setHalted_e : (s.setHalted).e = s.e := rfl
@[simp] theorem State.setHalted_h : (s.setHalted).h = s.h := rfl
@[simp] theorem State.setHalted_l : (s.setHalted).l = s.l := rfl
@[simp] theorem State.setHalted_flags : (s.setHalted).flags = s.flags := rfl
@[simp] theorem State.setHalted_sp : (s.setHalted).sp = s.sp := rfl
@[simp] theorem State.setHalted_written : (s.setHalted).written = s.written := rfl
@[simp] theorem State.setHalted_pc : (s.setHalted).pc = s.pc := rfl
@[simp] theorem State.setHalted_stopped : (s.setHalted).stopped = s.stopped := rfl
@[simp] theorem State.setHalted_halted : (s.setHalted).halted = true := rfl
@[simp] theorem State.setHalted_ime : (s.setHalted).ime = s.ime := rfl
@[simp] theorem State.setHalted_fault : (s.setHalted).fault = s.fault := rfl
@[simp] theorem State.setHalted_bootActive : (s.setHalted).bootActive = s.bootActive := rfl
@[simp] theorem State.setHalted_workRam : (s.setHalted).workRam = s.workRam := rfl
@[simp] theorem State.setHalted_highRam : (s.setHalted).highRam = s.highRam := rfl
@[simp] theorem State.setHalted_cart : (s.setHalted).cart = s.cart := rfl
@[simp] theorem State.setHalted_ports : (s.setHalted).ports = s.ports := rfl
@[simp] theorem State.setHalted_events : (s.setHalted).events = s.events := rfl
@[simp] theorem State.setHalted_draws : (s.setHalted).draws = s.draws := rfl
@[simp] theorem State.setHalted_epoch : (s.setHalted).epoch = s.epoch := rfl
@[simp] theorem State.setHalted_config : (s.setHalted).config = s.config := rfl

@[simp] theorem State.setIme_a (v : Bool) : (s.setIme v).a = s.a := rfl
@[simp] theorem State.setIme_b (v : Bool) : (s.setIme v).b = s.b := rfl
@[simp] theorem State.setIme_c (v : Bool) : (s.setIme v).c = s.c := rfl
@[simp] theorem State.setIme_d (v : Bool) : (s.setIme v).d = s.d := rfl
@[simp] theorem State.setIme_e (v : Bool) : (s.setIme v).e = s.e := rfl
@[simp] theorem State.setIme_h (v : Bool) : (s.setIme v).h = s.h := rfl
@[simp] theorem State.setIme_l (v : Bool) : (s.setIme v).l = s.l := rfl
@[simp] theorem State.setIme_flags (v : Bool) : (s.setIme v).flags = s.flags := rfl
@[simp] theorem State.setIme_sp (v : Bool) : (s.setIme v).sp = s.sp := rfl
@[simp] theorem State.setIme_written (v : Bool) : (s.setIme v).written = s.written := rfl
@[simp] theorem State.setIme_pc (v : Bool) : (s.setIme v).pc = s.pc := rfl
@[simp] theorem State.setIme_stopped (v : Bool) : (s.setIme v).stopped = s.stopped := rfl
@[simp] theorem State.setIme_halted (v : Bool) : (s.setIme v).halted = s.halted := rfl
@[simp] theorem State.setIme_ime (v : Bool) : (s.setIme v).ime = v := rfl
@[simp] theorem State.setIme_fault (v : Bool) : (s.setIme v).fault = s.fault := rfl
@[simp] theorem State.setIme_bootActive (v : Bool) : (s.setIme v).bootActive = s.bootActive := rfl
@[simp] theorem State.setIme_workRam (v : Bool) : (s.setIme v).workRam = s.workRam := rfl
@[simp] theorem State.setIme_highRam (v : Bool) : (s.setIme v).highRam = s.highRam := rfl
@[simp] theorem State.setIme_cart (v : Bool) : (s.setIme v).cart = s.cart := rfl
@[simp] theorem State.setIme_ports (v : Bool) : (s.setIme v).ports = s.ports := rfl
@[simp] theorem State.setIme_events (v : Bool) : (s.setIme v).events = s.events := rfl
@[simp] theorem State.setIme_draws (v : Bool) : (s.setIme v).draws = s.draws := rfl
@[simp] theorem State.setIme_epoch (v : Bool) : (s.setIme v).epoch = s.epoch := rfl
@[simp] theorem State.setIme_config (v : Bool) : (s.setIme v).config = s.config := rfl

@[simp] theorem State.raise_a (r : FaultRecord) : (s.raise r).a = s.a := rfl
@[simp] theorem State.raise_b (r : FaultRecord) : (s.raise r).b = s.b := rfl
@[simp] theorem State.raise_c (r : FaultRecord) : (s.raise r).c = s.c := rfl
@[simp] theorem State.raise_d (r : FaultRecord) : (s.raise r).d = s.d := rfl
@[simp] theorem State.raise_e (r : FaultRecord) : (s.raise r).e = s.e := rfl
@[simp] theorem State.raise_h (r : FaultRecord) : (s.raise r).h = s.h := rfl
@[simp] theorem State.raise_l (r : FaultRecord) : (s.raise r).l = s.l := rfl
@[simp] theorem State.raise_flags (r : FaultRecord) : (s.raise r).flags = s.flags := rfl
@[simp] theorem State.raise_sp (r : FaultRecord) : (s.raise r).sp = s.sp := rfl
@[simp] theorem State.raise_written (r : FaultRecord) : (s.raise r).written = s.written := rfl
@[simp] theorem State.raise_pc (r : FaultRecord) : (s.raise r).pc = s.pc := rfl
@[simp] theorem State.raise_stopped (r : FaultRecord) : (s.raise r).stopped = s.stopped := rfl
@[simp] theorem State.raise_halted (r : FaultRecord) : (s.raise r).halted = s.halted := rfl
@[simp] theorem State.raise_ime (r : FaultRecord) : (s.raise r).ime = s.ime := rfl
@[simp] theorem State.raise_fault (r : FaultRecord) : (s.raise r).fault = some r := rfl
@[simp] theorem State.raise_bootActive (r : FaultRecord) : (s.raise r).bootActive = s.bootActive := rfl
@[simp] theorem State.raise_workRam (r : FaultRecord) : (s.raise r).workRam = s.workRam := rfl
@[simp] theorem State.raise_highRam (r : FaultRecord) : (s.raise r).highRam = s.highRam := rfl
@[simp] theorem State.raise_cart (r : FaultRecord) : (s.raise r).cart = s.cart := rfl
@[simp] theorem State.raise_ports (r : FaultRecord) : (s.raise r).ports = s.ports := rfl
@[simp] theorem State.raise_events (r : FaultRecord) : (s.raise r).events = s.events := rfl
@[simp] theorem State.raise_draws (r : FaultRecord) : (s.raise r).draws = s.draws := rfl
@[simp] theorem State.raise_epoch (r : FaultRecord) : (s.raise r).epoch = s.epoch := rfl
@[simp] theorem State.raise_config (r : FaultRecord) : (s.raise r).config = s.config := rfl

@[simp] theorem State.touch_a (x : Word) : (s.touch x).a = s.a := rfl
@[simp] theorem State.touch_b (x : Word) : (s.touch x).b = s.b := rfl
@[simp] theorem State.touch_c (x : Word) : (s.touch x).c = s.c := rfl
@[simp] theorem State.touch_d (x : Word) : (s.touch x).d = s.d := rfl
@[simp] theorem State.touch_e (x : Word) : (s.touch x).e = s.e := rfl
@[simp] theorem State.touch_h (x : Word) : (s.touch x).h = s.h := rfl
@[simp] theorem State.touch_l (x : Word) : (s.touch x).l = s.l := rfl
@[simp] theorem State.touch_flags (x : Word) : (s.touch x).flags = s.flags := rfl
@[simp] theorem State.touch_sp (x : Word) : (s.touch x).sp = s.sp := rfl
@[simp] theorem State.touch_written (x : Word) : (s.touch x).written = s.written := rfl
@[simp] theorem State.touch_pc (x : Word) : (s.touch x).pc = s.pc := rfl
@[simp] theorem State.touch_stopped (x : Word) : (s.touch x).stopped = s.stopped := rfl
@[simp] theorem State.touch_halted (x : Word) : (s.touch x).halted = s.halted := rfl
@[simp] theorem State.touch_ime (x : Word) : (s.touch x).ime = s.ime := rfl
@[simp] theorem State.touch_fault (x : Word) : (s.touch x).fault = s.fault := rfl
@[simp] theorem State.touch_bootActive (x : Word) : (s.touch x).bootActive = (s.bootActive && decide (x ≠ 0x0100)) := rfl
@[simp] theorem State.touch_workRam (x : Word) : (s.touch x).workRam = s.workRam := rfl
@[simp] theorem State.touch_highRam (x : Word) : (s.touch x).highRam = s.highRam := rfl
@[simp] theorem State.touch_cart (x : Word) : (s.touch x).cart = s.cart := rfl
@[simp] theorem State.touch_ports (x : Word) : (s.touch x).ports = s.ports := rfl
@[simp] theorem State.touch_events (x : Word) : (s.touch x).events = s.events := rfl
@[simp] theorem State.touch_draws (x : Word) : (s.touch x).draws = s.draws := rfl
@[simp] theorem State.touch_epoch (x : Word) : (s.touch x).epoch = s.epoch := rfl
@[simp] theorem State.touch_config (x : Word) : (s.touch x).config = s.config := rfl

@[simp] theorem State.setReg_written (r : Reg) (v : Byte) : (s.setReg r v).written = s.written.mark (.reg r) := by cases r <;> rfl
@[simp] theorem State.setReg_flags (r : Reg) (v : Byte) : (s.setReg r v).flags = s.flags := by cases r <;> rfl
@[simp] theorem State.setReg_sp (r : Reg) (v : Byte) : (s.setReg r v).sp = s.sp := by cases r <;> rfl
@[simp] theorem State.setReg_pc (r : Reg) (v : Byte) : (s.setReg r v).pc = s.pc := by cases r <;> rfl
@[simp] theorem State.setReg_stopped (r : Reg) (v : Byte) : (s.setReg r v).stopped = s.stopped := by cases r <;> rfl
@[simp] theorem State.setReg_halted (r : Reg) (v : Byte) : (s.setReg r v).halted = s.halted := by cases r <;> rfl
@[simp] theorem State.setReg_ime (r : Reg) (v : Byte) : (s.setReg r v).ime = s.ime := by cases r <;> rfl
@[simp] theorem State.setReg_fault (r : Reg) (v : Byte) : (s.setReg r v).fault = s.fault := by cases r <;> rfl
@[simp] theorem State.setReg_bootActive (r : Reg) (v : Byte) : (s.setReg r v).bootActive = s.bootActive := by cases r <;> rfl
@[simp] theorem State.setReg_workRam (r : Reg) (v : Byte) : (s.setReg r v).workRam = s.workRam := by cases r <;> rfl
@[simp] theorem State.setReg_highRam (r : Reg) (v : Byte) : (s.setReg r v).highRam = s.highRam := by cases r <;> rfl
@[simp] theorem State.setReg_cart (r : Reg) (v : Byte) : (s.setReg r v).cart = s.cart := by cases r <;> rfl
@[simp] theorem State.setReg_ports (r : Reg) (v : Byte) : (s.setReg r v).ports = s.ports := by cases r <;> rfl
@[simp] theorem State.setReg_events (r : Reg) (v : Byte) : (s.setReg r v).events = s.events := by cases r <;> rfl
@[simp] theorem State.setReg_draws (r : Reg) (v : Byte) : (s.setReg r v).draws = s.draws := by cases r <;> rfl
@[simp] theorem State.setReg_epoch (r : Reg) (v : Byte) : (s.setReg r v).epoch = s.epoch := by cases r <;> rfl
@[simp] theorem State.setReg_config (r : Reg) (v : Byte) : (s.setReg r v).config = s.config := by cases r <;> rfl

/-- Reading a register after writing one. -/
@[simp] theorem State.getReg_setReg (r q : Reg) (v : Byte) :
    (s.setReg r v).getReg q = if q = r then v else s.getReg q := by
  cases r <;> cases q <;> rfl

/-- A written bit after a write: writes set bits and clear none. -/
@[simp] theorem Written.get_mark (w : Written) (m n : RegName) :
    (w.mark m).get n = (decide (n = m) || w.get n) := by
  rcases m with r | _ | f <;> rcases n with q | _ | g <;> (try cases r) <;> (try cases f) <;>
    (try cases q) <;> (try cases g) <;> simp [Written.mark, Written.get]

/-- A register's bit after writes of flags. -/
@[simp] theorem FlagWrites.get_marks_reg (w : FlagWrites) (m : Written) (r : Reg) :
    (w.marks m).get (.reg r) = m.get (.reg r) := by cases r <;> rfl

/-- SP's bit after writes of flags. -/
@[simp] theorem FlagWrites.get_marks_sp (w : FlagWrites) (m : Written) :
    (w.marks m).get .sp = m.get .sp := rfl

/-- Writes of flags clear no bit. -/
theorem FlagWrites.get_marks_of_get {w : FlagWrites} {m : Written} {n : RegName}
    (h : m.get n = true) : (w.marks m).get n = true := by
  rcases n with r | _ | f
  · simpa using h
  · simpa using h
  · cases f <;> simp_all [FlagWrites.marks, Written.get]

@[simp] theorem State.getReg_setSp (v : Word) (q : Reg) : (s.setSp v).getReg q = s.getReg q := by cases q <;> rfl
@[simp] theorem State.getReg_setPc (v : Word) (q : Reg) : (s.setPc v).getReg q = s.getReg q := by cases q <;> rfl
@[simp] theorem State.getReg_writeFlags (w : FlagWrites) (q : Reg) : (s.writeFlags w).getReg q = s.getReg q := by cases q <;> rfl
@[simp] theorem State.getReg_setFlags (f : Flags) (q : Reg) : (s.setFlags f).getReg q = s.getReg q := by cases q <;> rfl
@[simp] theorem State.getReg_setStopped (q : Reg) : (s.setStopped).getReg q = s.getReg q := by cases q <;> rfl
@[simp] theorem State.getReg_setHalted (q : Reg) : (s.setHalted).getReg q = s.getReg q := by cases q <;> rfl
@[simp] theorem State.getReg_setIme (v : Bool) (q : Reg) : (s.setIme v).getReg q = s.getReg q := by cases q <;> rfl
@[simp] theorem State.getReg_raise (r : FaultRecord) (q : Reg) : (s.raise r).getReg q = s.getReg q := by cases q <;> rfl
@[simp] theorem State.getReg_touch (x : Word) (q : Reg) : (s.touch x).getReg q = s.getReg q := by cases q <;> rfl
@[simp] theorem State.bc_setSp (v : Word) : (s.setSp v).bc = s.bc := rfl
@[simp] theorem State.de_setSp (v : Word) : (s.setSp v).de = s.de := rfl
@[simp] theorem State.hl_setSp (v : Word) : (s.setSp v).hl = s.hl := rfl
@[simp] theorem State.bc_setPc (v : Word) : (s.setPc v).bc = s.bc := rfl
@[simp] theorem State.de_setPc (v : Word) : (s.setPc v).de = s.de := rfl
@[simp] theorem State.hl_setPc (v : Word) : (s.setPc v).hl = s.hl := rfl
@[simp] theorem State.bc_writeFlags (w : FlagWrites) : (s.writeFlags w).bc = s.bc := rfl
@[simp] theorem State.de_writeFlags (w : FlagWrites) : (s.writeFlags w).de = s.de := rfl
@[simp] theorem State.hl_writeFlags (w : FlagWrites) : (s.writeFlags w).hl = s.hl := rfl
@[simp] theorem State.bc_setFlags (f : Flags) : (s.setFlags f).bc = s.bc := rfl
@[simp] theorem State.de_setFlags (f : Flags) : (s.setFlags f).de = s.de := rfl
@[simp] theorem State.hl_setFlags (f : Flags) : (s.setFlags f).hl = s.hl := rfl
@[simp] theorem State.bc_setStopped : (s.setStopped).bc = s.bc := rfl
@[simp] theorem State.de_setStopped : (s.setStopped).de = s.de := rfl
@[simp] theorem State.hl_setStopped : (s.setStopped).hl = s.hl := rfl
@[simp] theorem State.bc_setHalted : (s.setHalted).bc = s.bc := rfl
@[simp] theorem State.de_setHalted : (s.setHalted).de = s.de := rfl
@[simp] theorem State.hl_setHalted : (s.setHalted).hl = s.hl := rfl
@[simp] theorem State.bc_setIme (v : Bool) : (s.setIme v).bc = s.bc := rfl
@[simp] theorem State.de_setIme (v : Bool) : (s.setIme v).de = s.de := rfl
@[simp] theorem State.hl_setIme (v : Bool) : (s.setIme v).hl = s.hl := rfl
@[simp] theorem State.bc_raise (r : FaultRecord) : (s.raise r).bc = s.bc := rfl
@[simp] theorem State.de_raise (r : FaultRecord) : (s.raise r).de = s.de := rfl
@[simp] theorem State.hl_raise (r : FaultRecord) : (s.raise r).hl = s.hl := rfl
@[simp] theorem State.bc_touch (x : Word) : (s.touch x).bc = s.bc := rfl
@[simp] theorem State.de_touch (x : Word) : (s.touch x).de = s.de := rfl
@[simp] theorem State.hl_touch (x : Word) : (s.touch x).hl = s.hl := rfl

@[simp] theorem State.afterDeviceRead_a (d : Device) : (s.afterDeviceRead d).a = s.a := by cases d <;> rfl
@[simp] theorem State.afterDeviceRead_b (d : Device) : (s.afterDeviceRead d).b = s.b := by cases d <;> rfl
@[simp] theorem State.afterDeviceRead_c (d : Device) : (s.afterDeviceRead d).c = s.c := by cases d <;> rfl
@[simp] theorem State.afterDeviceRead_d (d : Device) : (s.afterDeviceRead d).d = s.d := by cases d <;> rfl
@[simp] theorem State.afterDeviceRead_e (d : Device) : (s.afterDeviceRead d).e = s.e := by cases d <;> rfl
@[simp] theorem State.afterDeviceRead_h (d : Device) : (s.afterDeviceRead d).h = s.h := by cases d <;> rfl
@[simp] theorem State.afterDeviceRead_l (d : Device) : (s.afterDeviceRead d).l = s.l := by cases d <;> rfl
@[simp] theorem State.afterDeviceRead_flags (d : Device) : (s.afterDeviceRead d).flags = s.flags := by cases d <;> rfl
@[simp] theorem State.afterDeviceRead_sp (d : Device) : (s.afterDeviceRead d).sp = s.sp := by cases d <;> rfl
@[simp] theorem State.afterDeviceRead_written (d : Device) : (s.afterDeviceRead d).written = s.written := by cases d <;> rfl
@[simp] theorem State.afterDeviceRead_pc (d : Device) : (s.afterDeviceRead d).pc = s.pc := by cases d <;> rfl
@[simp] theorem State.afterDeviceRead_stopped (d : Device) : (s.afterDeviceRead d).stopped = s.stopped := by cases d <;> rfl
@[simp] theorem State.afterDeviceRead_halted (d : Device) : (s.afterDeviceRead d).halted = s.halted := by cases d <;> rfl
@[simp] theorem State.afterDeviceRead_ime (d : Device) : (s.afterDeviceRead d).ime = s.ime := by cases d <;> rfl
@[simp] theorem State.afterDeviceRead_fault (d : Device) : (s.afterDeviceRead d).fault = s.fault := by cases d <;> rfl
@[simp] theorem State.afterDeviceRead_bootActive (d : Device) : (s.afterDeviceRead d).bootActive = s.bootActive := by cases d <;> rfl
@[simp] theorem State.afterDeviceRead_workRam (d : Device) : (s.afterDeviceRead d).workRam = s.workRam := by cases d <;> rfl
@[simp] theorem State.afterDeviceRead_highRam (d : Device) : (s.afterDeviceRead d).highRam = s.highRam := by cases d <;> rfl
@[simp] theorem State.afterDeviceRead_cart (d : Device) : (s.afterDeviceRead d).cart = s.cart := by cases d <;> rfl
@[simp] theorem State.afterDeviceRead_ports (d : Device) : (s.afterDeviceRead d).ports = s.ports := by cases d <;> rfl
@[simp] theorem State.afterDeviceRead_events (d : Device) : (s.afterDeviceRead d).events = s.events := by cases d <;> rfl
@[simp] theorem State.afterDeviceRead_epoch (d : Device) : (s.afterDeviceRead d).epoch = s.epoch := by cases d <;> rfl
@[simp] theorem State.afterDeviceRead_config (d : Device) : (s.afterDeviceRead d).config = s.config := by cases d <;> rfl

@[simp] theorem State.deviceWrite_a (d : Device) (o : Nat) (v : Byte) : (s.deviceWrite d o v).a = s.a := by cases d <;> rfl
@[simp] theorem State.deviceWrite_b (d : Device) (o : Nat) (v : Byte) : (s.deviceWrite d o v).b = s.b := by cases d <;> rfl
@[simp] theorem State.deviceWrite_c (d : Device) (o : Nat) (v : Byte) : (s.deviceWrite d o v).c = s.c := by cases d <;> rfl
@[simp] theorem State.deviceWrite_d (d : Device) (o : Nat) (v : Byte) : (s.deviceWrite d o v).d = s.d := by cases d <;> rfl
@[simp] theorem State.deviceWrite_e (d : Device) (o : Nat) (v : Byte) : (s.deviceWrite d o v).e = s.e := by cases d <;> rfl
@[simp] theorem State.deviceWrite_h (d : Device) (o : Nat) (v : Byte) : (s.deviceWrite d o v).h = s.h := by cases d <;> rfl
@[simp] theorem State.deviceWrite_l (d : Device) (o : Nat) (v : Byte) : (s.deviceWrite d o v).l = s.l := by cases d <;> rfl
@[simp] theorem State.deviceWrite_flags (d : Device) (o : Nat) (v : Byte) : (s.deviceWrite d o v).flags = s.flags := by cases d <;> rfl
@[simp] theorem State.deviceWrite_sp (d : Device) (o : Nat) (v : Byte) : (s.deviceWrite d o v).sp = s.sp := by cases d <;> rfl
@[simp] theorem State.deviceWrite_written (d : Device) (o : Nat) (v : Byte) : (s.deviceWrite d o v).written = s.written := by cases d <;> rfl
@[simp] theorem State.deviceWrite_pc (d : Device) (o : Nat) (v : Byte) : (s.deviceWrite d o v).pc = s.pc := by cases d <;> rfl
@[simp] theorem State.deviceWrite_stopped (d : Device) (o : Nat) (v : Byte) : (s.deviceWrite d o v).stopped = s.stopped := by cases d <;> rfl
@[simp] theorem State.deviceWrite_halted (d : Device) (o : Nat) (v : Byte) : (s.deviceWrite d o v).halted = s.halted := by cases d <;> rfl
@[simp] theorem State.deviceWrite_ime (d : Device) (o : Nat) (v : Byte) : (s.deviceWrite d o v).ime = s.ime := by cases d <;> rfl
@[simp] theorem State.deviceWrite_fault (d : Device) (o : Nat) (v : Byte) : (s.deviceWrite d o v).fault = s.fault := by cases d <;> rfl
@[simp] theorem State.deviceWrite_bootActive (d : Device) (o : Nat) (v : Byte) : (s.deviceWrite d o v).bootActive = s.bootActive := by cases d <;> rfl
@[simp] theorem State.deviceWrite_draws (d : Device) (o : Nat) (v : Byte) : (s.deviceWrite d o v).draws = s.draws := by cases d <;> rfl
@[simp] theorem State.deviceWrite_epoch (d : Device) (o : Nat) (v : Byte) : (s.deviceWrite d o v).epoch = s.epoch := by cases d <;> rfl
@[simp] theorem State.deviceWrite_config (d : Device) (o : Nat) (v : Byte) : (s.deviceWrite d o v).config = s.config := by cases d <;> rfl

@[simp] theorem State.afterLoad_a (x : Word) : (s.afterLoad x).a = s.a := by simp [State.afterLoad]
@[simp] theorem State.afterLoad_b (x : Word) : (s.afterLoad x).b = s.b := by simp [State.afterLoad]
@[simp] theorem State.afterLoad_c (x : Word) : (s.afterLoad x).c = s.c := by simp [State.afterLoad]
@[simp] theorem State.afterLoad_d (x : Word) : (s.afterLoad x).d = s.d := by simp [State.afterLoad]
@[simp] theorem State.afterLoad_e (x : Word) : (s.afterLoad x).e = s.e := by simp [State.afterLoad]
@[simp] theorem State.afterLoad_h (x : Word) : (s.afterLoad x).h = s.h := by simp [State.afterLoad]
@[simp] theorem State.afterLoad_l (x : Word) : (s.afterLoad x).l = s.l := by simp [State.afterLoad]
@[simp] theorem State.afterLoad_flags (x : Word) : (s.afterLoad x).flags = s.flags := by simp [State.afterLoad]
@[simp] theorem State.afterLoad_sp (x : Word) : (s.afterLoad x).sp = s.sp := by simp [State.afterLoad]
@[simp] theorem State.afterLoad_written (x : Word) : (s.afterLoad x).written = s.written := by simp [State.afterLoad]
@[simp] theorem State.afterLoad_pc (x : Word) : (s.afterLoad x).pc = s.pc := by simp [State.afterLoad]
@[simp] theorem State.afterLoad_stopped (x : Word) : (s.afterLoad x).stopped = s.stopped := by simp [State.afterLoad]
@[simp] theorem State.afterLoad_halted (x : Word) : (s.afterLoad x).halted = s.halted := by simp [State.afterLoad]
@[simp] theorem State.afterLoad_ime (x : Word) : (s.afterLoad x).ime = s.ime := by simp [State.afterLoad]
@[simp] theorem State.afterLoad_fault (x : Word) : (s.afterLoad x).fault = s.fault := by simp [State.afterLoad]
@[simp] theorem State.afterLoad_workRam (x : Word) : (s.afterLoad x).workRam = s.workRam := by simp [State.afterLoad]
@[simp] theorem State.afterLoad_highRam (x : Word) : (s.afterLoad x).highRam = s.highRam := by simp [State.afterLoad]
@[simp] theorem State.afterLoad_cart (x : Word) : (s.afterLoad x).cart = s.cart := by simp [State.afterLoad]
@[simp] theorem State.afterLoad_ports (x : Word) : (s.afterLoad x).ports = s.ports := by simp [State.afterLoad]
@[simp] theorem State.afterLoad_events (x : Word) : (s.afterLoad x).events = s.events := by simp [State.afterLoad]
@[simp] theorem State.afterLoad_epoch (x : Word) : (s.afterLoad x).epoch = s.epoch := by simp [State.afterLoad]
@[simp] theorem State.afterLoad_config (x : Word) : (s.afterLoad x).config = s.config := by simp [State.afterLoad]
@[simp] theorem State.afterLoad_bootActive (x : Word) : (s.afterLoad x).bootActive = (s.bootActive && decide (x ≠ 0x0100)) := by simp [State.afterLoad]

@[simp] theorem State.store_a (x : Word) (v : Byte) : (s.store x v).a = s.a := by simp [State.store]
@[simp] theorem State.store_b (x : Word) (v : Byte) : (s.store x v).b = s.b := by simp [State.store]
@[simp] theorem State.store_c (x : Word) (v : Byte) : (s.store x v).c = s.c := by simp [State.store]
@[simp] theorem State.store_d (x : Word) (v : Byte) : (s.store x v).d = s.d := by simp [State.store]
@[simp] theorem State.store_e (x : Word) (v : Byte) : (s.store x v).e = s.e := by simp [State.store]
@[simp] theorem State.store_h (x : Word) (v : Byte) : (s.store x v).h = s.h := by simp [State.store]
@[simp] theorem State.store_l (x : Word) (v : Byte) : (s.store x v).l = s.l := by simp [State.store]
@[simp] theorem State.store_flags (x : Word) (v : Byte) : (s.store x v).flags = s.flags := by simp [State.store]
@[simp] theorem State.store_sp (x : Word) (v : Byte) : (s.store x v).sp = s.sp := by simp [State.store]
@[simp] theorem State.store_written (x : Word) (v : Byte) : (s.store x v).written = s.written := by simp [State.store]
@[simp] theorem State.store_pc (x : Word) (v : Byte) : (s.store x v).pc = s.pc := by simp [State.store]
@[simp] theorem State.store_stopped (x : Word) (v : Byte) : (s.store x v).stopped = s.stopped := by simp [State.store]
@[simp] theorem State.store_halted (x : Word) (v : Byte) : (s.store x v).halted = s.halted := by simp [State.store]
@[simp] theorem State.store_ime (x : Word) (v : Byte) : (s.store x v).ime = s.ime := by simp [State.store]
@[simp] theorem State.store_fault (x : Word) (v : Byte) : (s.store x v).fault = s.fault := by simp [State.store]
@[simp] theorem State.store_draws (x : Word) (v : Byte) : (s.store x v).draws = s.draws := by simp [State.store]
@[simp] theorem State.store_epoch (x : Word) (v : Byte) : (s.store x v).epoch = s.epoch := by simp [State.store]
@[simp] theorem State.store_config (x : Word) (v : Byte) : (s.store x v).config = s.config := by simp [State.store]
@[simp] theorem State.store_bootActive (x : Word) (v : Byte) : (s.store x v).bootActive = (s.bootActive && decide (x ≠ 0x0100)) := by simp [State.store]

@[simp] theorem State.getReg_afterLoad (x : Word) (q : Reg) : (s.afterLoad x).getReg q = s.getReg q := by cases q <;> simp [State.getReg]
@[simp] theorem State.bc_afterLoad (x : Word) : (s.afterLoad x).bc = s.bc := by simp [State.bc]
@[simp] theorem State.de_afterLoad (x : Word) : (s.afterLoad x).de = s.de := by simp [State.de]
@[simp] theorem State.hl_afterLoad (x : Word) : (s.afterLoad x).hl = s.hl := by simp [State.hl]
@[simp] theorem State.getReg_store (x : Word) (w : Byte) (q : Reg) : (s.store x w).getReg q = s.getReg q := by cases q <;> simp [State.getReg]
@[simp] theorem State.bc_store (x : Word) (w : Byte) : (s.store x w).bc = s.bc := by simp [State.bc]
@[simp] theorem State.de_store (x : Word) (w : Byte) : (s.store x w).de = s.de := by simp [State.de]
@[simp] theorem State.hl_store (x : Word) (w : Byte) : (s.store x w).hl = s.hl := by simp [State.hl]

/-! ## Reads of the Bus after an update of registers -/

@[simp] theorem State.target_setBc (v : Word) (x : Word) : (s.setBc v).target x = s.target x := rfl
@[simp] theorem State.reaches_setBc (v : Word) (x : Word) : (s.setBc v).reaches x = s.reaches x := rfl
@[simp] theorem State.loadByte_setBc (v : Word) (x : Word) : (s.setBc v).loadByte x = s.loadByte x := rfl
@[simp] theorem State.target_setDe (v : Word) (x : Word) : (s.setDe v).target x = s.target x := rfl
@[simp] theorem State.reaches_setDe (v : Word) (x : Word) : (s.setDe v).reaches x = s.reaches x := rfl
@[simp] theorem State.loadByte_setDe (v : Word) (x : Word) : (s.setDe v).loadByte x = s.loadByte x := rfl
@[simp] theorem State.target_setHl (v : Word) (x : Word) : (s.setHl v).target x = s.target x := rfl
@[simp] theorem State.reaches_setHl (v : Word) (x : Word) : (s.setHl v).reaches x = s.reaches x := rfl
@[simp] theorem State.loadByte_setHl (v : Word) (x : Word) : (s.setHl v).loadByte x = s.loadByte x := rfl
@[simp] theorem State.target_setSp (v : Word) (x : Word) : (s.setSp v).target x = s.target x := rfl
@[simp] theorem State.reaches_setSp (v : Word) (x : Word) : (s.setSp v).reaches x = s.reaches x := rfl
@[simp] theorem State.loadByte_setSp (v : Word) (x : Word) : (s.setSp v).loadByte x = s.loadByte x := rfl
@[simp] theorem State.target_setPc (v : Word) (x : Word) : (s.setPc v).target x = s.target x := rfl
@[simp] theorem State.reaches_setPc (v : Word) (x : Word) : (s.setPc v).reaches x = s.reaches x := rfl
@[simp] theorem State.loadByte_setPc (v : Word) (x : Word) : (s.setPc v).loadByte x = s.loadByte x := rfl
@[simp] theorem State.target_writeFlags (w : FlagWrites) (x : Word) : (s.writeFlags w).target x = s.target x := rfl
@[simp] theorem State.reaches_writeFlags (w : FlagWrites) (x : Word) : (s.writeFlags w).reaches x = s.reaches x := rfl
@[simp] theorem State.loadByte_writeFlags (w : FlagWrites) (x : Word) : (s.writeFlags w).loadByte x = s.loadByte x := rfl
@[simp] theorem State.target_setFlags (f : Flags) (x : Word) : (s.setFlags f).target x = s.target x := rfl
@[simp] theorem State.reaches_setFlags (f : Flags) (x : Word) : (s.setFlags f).reaches x = s.reaches x := rfl
@[simp] theorem State.loadByte_setFlags (f : Flags) (x : Word) : (s.setFlags f).loadByte x = s.loadByte x := rfl
@[simp] theorem State.target_setStopped (x : Word) : (s.setStopped).target x = s.target x := rfl
@[simp] theorem State.reaches_setStopped (x : Word) : (s.setStopped).reaches x = s.reaches x := rfl
@[simp] theorem State.loadByte_setStopped (x : Word) : (s.setStopped).loadByte x = s.loadByte x := rfl
@[simp] theorem State.target_setHalted (x : Word) : (s.setHalted).target x = s.target x := rfl
@[simp] theorem State.reaches_setHalted (x : Word) : (s.setHalted).reaches x = s.reaches x := rfl
@[simp] theorem State.loadByte_setHalted (x : Word) : (s.setHalted).loadByte x = s.loadByte x := rfl
@[simp] theorem State.target_setIme (v : Bool) (x : Word) : (s.setIme v).target x = s.target x := rfl
@[simp] theorem State.reaches_setIme (v : Bool) (x : Word) : (s.setIme v).reaches x = s.reaches x := rfl
@[simp] theorem State.loadByte_setIme (v : Bool) (x : Word) : (s.setIme v).loadByte x = s.loadByte x := rfl
@[simp] theorem State.target_raise (r : FaultRecord) (x : Word) : (s.raise r).target x = s.target x := rfl
@[simp] theorem State.reaches_raise (r : FaultRecord) (x : Word) : (s.raise r).reaches x = s.reaches x := rfl
@[simp] theorem State.loadByte_raise (r : FaultRecord) (x : Word) : (s.raise r).loadByte x = s.loadByte x := rfl
@[simp] theorem State.target_setReg (r : Reg) (v : Byte) (x : Word) : (s.setReg r v).target x = s.target x := by cases r <;> rfl
@[simp] theorem State.reaches_setReg (r : Reg) (v : Byte) (x : Word) : (s.setReg r v).reaches x = s.reaches x := by cases r <;> rfl
@[simp] theorem State.loadByte_setReg (r : Reg) (v : Byte) (x : Word) : (s.setReg r v).loadByte x = s.loadByte x := by cases r <;> rfl

end Sys2Proof.Machine
end

