-- ==== Sys2Proof/Laws/Ops.lean ====
section
/-! SUPPORT. One lemma per shared operation: what it answers, by the total functions of Ops.lean and
Operands.lean. -/

namespace Sys2Proof.Machine

variable (s : State)

@[simp] theorem andThen_next {α β : Type} (x : α) (f : α → Res β) : andThen (.next x) f = f x := rfl

/-- A sequence answers next exactly when both parts do. -/
theorem andThen_eq_next {α β : Type} {o : Res α} {f : α → Res β} {y : β} :
    andThen o f = .next y ↔ ∃ x, o = .next x ∧ f x = .next y := by
  cases o <;> simp [andThen]

/-! ## Reads of registers and flags -/

/-- The instruction ends at the first unwritten of these, with `len` bytes fetched. -/
def State.stopsUnread (s : State) (names : List RegName) (len : Nat) (t : State) : Prop :=
  ∃ n, s.firstUnwritten names = some n ∧ t = s.raiseUnwritten n len

/-- No read of these faults: DRAW, or each is written (60_exceptions.md R418). -/
theorem State.firstUnwritten_eq_none_iff {s : State} {names : List RegName} :
    s.firstUnwritten names = none ↔ s.config.resetRegs = .draw ∨ ∀ n ∈ names, s.written.get n = true := by
  cases h : s.config.resetRegs <;> simp [State.firstUnwritten, h]

/-- The first read that faults: everything before it is written (60_exceptions.md R408, R418). -/
theorem State.firstUnwritten_eq_some_iff {s : State} {names : List RegName} {n : RegName} :
    s.firstUnwritten names = some n ↔ s.config.resetRegs = .noValue ∧ s.written.get n = false ∧
      ∃ before after, names = before ++ n :: after ∧ ∀ m ∈ before, s.written.get m = true := by
  cases h : s.config.resetRegs <;>
    simp [State.firstUnwritten, h, List.find?_eq_some_iff_append]

/-- Under DRAW no read faults. -/
theorem State.firstUnwritten_of_draw {s : State} (h : s.config.resetRegs = .draw)
    (names : List RegName) : s.firstUnwritten names = none :=
  State.firstUnwritten_eq_none_iff.2 (.inl h)

/-- No read, no fault. -/
@[simp] theorem State.firstUnwritten_nil : s.firstUnwritten [] = none :=
  State.firstUnwritten_eq_none_iff.2 (.inr (by simp))

/-- Reads one after the other: the first fault of the first ones, else that of the others. -/
theorem State.firstUnwritten_append (names more : List RegName) :
    s.firstUnwritten (names ++ more) = (s.firstUnwritten names).or (s.firstUnwritten more) := by
  cases h : s.config.resetRegs <;> simp [State.firstUnwritten, h]

/-- Which read faults depends on the parameters and the written bits only. -/
theorem State.firstUnwritten_congr {s t : State} (hc : t.config = s.config)
    (hw : t.written = s.written) (names : List RegName) :
    t.firstUnwritten names = s.firstUnwritten names := by
  simp only [State.firstUnwritten, hc, hw]

@[simp] theorem State.firstUnwritten_afterLoad (x : Word) (names : List RegName) :
    (s.afterLoad x).firstUnwritten names = s.firstUnwritten names :=
  State.firstUnwritten_congr (by simp) (by simp) names

@[simp] theorem State.firstUnwritten_afterR8 (r : R8) (names : List RegName) :
    (s.afterR8 r).firstUnwritten names = s.firstUnwritten names := by
  cases r <;> simp [State.afterR8]

/-- Two writes of flags are one: the later write of a flag wins (10_state.md R23, R45). -/
theorem State.writeFlags_writeFlags (v w : FlagWrites) : (s.writeFlags v).writeFlags w =
    s.writeFlags ⟨w.z.or v.z, w.n.or v.n, w.h.or v.h, w.c.or v.c⟩ := by
  rcases v with ⟨_ | _, _ | _, _ | _, _ | _⟩ <;> rcases w with ⟨_ | _, _ | _, _ | _, _ | _⟩ <;>
    simp [State.writeFlags, FlagWrites.over, FlagWrites.marks]

/-- Reads that do not fault. -/
theorem reading_of_none {s : State} {names : List RegName} (h : s.firstUnwritten names = none)
    (len : Nat) (k : Res State) : reading names len s k = k := by simp only [reading, h]

/-- A read that faults. -/
theorem reading_of_some {s : State} {names : List RegName} {n : RegName}
    (h : s.firstUnwritten names = some n) (len : Nat) (k : Res State) : reading names len s k = .next (s.raiseUnwritten n len) := by
  simp only [reading, h]

/-- Everything reading registers and flags can answer. -/
theorem reading_next_iff {s : State} {names : List RegName} {len : Nat} {k : Res State} {t : State} :
    reading names len s k = .next t ↔
      s.stopsUnread names len t ∨ s.firstUnwritten names = none ∧ k = .next t := by
  cases h : s.firstUnwritten names with
  | none => simp [reading, State.stopsUnread, h]
  | some n =>
    simp only [reading, State.stopsUnread, h]
    constructor
    · intro e; injection e with e; exact .inl ⟨n, rfl, e.symm⟩
    · rintro (⟨m, hm, rfl⟩ | ⟨hm, _⟩)
      · injection hm with hm; rw [hm]
      · cases hm

/-! ## Reach -/

/-- Only an address of 0xE000-0xEFFF with SOURCE_ARITH has no meaning (20_memory.md R67). -/
theorem State.reaches_eq_false_iff (x : Word) :
    s.reaches x = false ↔
      s.config.echo = .sourceArith ∧ 0xE000 ≤ x.toNat ∧ x.toNat < 0xF000 := by
  cases h : s.config.echo <;>
    simp only [State.reaches, State.target, translateAddress, h, translateEcho] <;>
    (repeat' split) <;> simp <;> omega

/-- With TRUE_MIRROR every address has a meaning. -/
theorem State.reaches_of_trueMirror (h : s.config.echo = .trueMirror) (x : Word) :
    s.reaches x = true := by
  cases hr : s.reaches x with
  | true => rfl
  | false => rw [State.reaches_eq_false_iff, h] at hr; simp at hr

/-- Reach depends on the parameters only. -/
theorem State.reaches_congr {s t : State} (h : t.config = s.config) (x : Word) :
    t.reaches x = s.reaches x := by
  rw [Bool.eq_iff_iff, ← not_iff_not]
  simp only [Bool.not_eq_true, State.reaches_eq_false_iff, h]

@[simp] theorem State.reaches_afterLoad (x y : Word) : (s.afterLoad x).reaches y = s.reaches y :=
  State.reaches_congr (s.afterLoad_config x) y

@[simp] theorem State.reaches_store (x y : Word) (v : Byte) : (s.store x v).reaches y = s.reaches y :=
  State.reaches_congr (s.store_config x v) y

/-! ## Bus access -/

/-- A read of an address with a meaning. -/
theorem memRead_eq {x : Word} (h : s.reaches x = true) :
    memRead x s = .next (s.loadByte x, s.afterLoad x) := by simp [memRead, h]

/-- A write to an address with a meaning. -/
theorem memWrite_eq {x : Word} (v : Byte) (h : s.reaches x = true) :
    memWrite x v s = .next (s.store x v) := by simp [memWrite, h]

/-- Everything a read can answer. -/
theorem memRead_eq_next {x : Word} {p : Byte × State} (h : memRead x s = .next p) :
    s.reaches x = true ∧ p = (s.loadByte x, s.afterLoad x) := by
  unfold memRead at h
  split at h
  · rename_i hr; exact ⟨hr, by injection h with h; exact h.symm⟩
  · cases h

/-- Everything a write can answer. -/
theorem memWrite_eq_next {x : Word} {v : Byte} {t : State} (h : memWrite x v s = .next t) :
    s.reaches x = true ∧ t = s.store x v := by
  unfold memWrite at h
  split at h
  · rename_i hr; exact ⟨hr, by injection h with h; exact h.symm⟩
  · cases h

/-- `ReadR8` of a code whose operand has a meaning. -/
theorem readR8_eq {r : R8} (h : s.r8Reaches r = true) :
    readR8 r s = .next (s.r8Byte r, s.afterR8 r) := by
  cases r with
  | reg r => rfl
  | atHl => exact memRead_eq s h

/-- `WriteR8` of a code whose operand has a meaning. -/
theorem writeR8_eq {r : R8} (v : Byte) (h : s.r8Reaches r = true) :
    writeR8 r v s = .next (s.putR8 r v) := by
  cases r with
  | reg r => rfl
  | atHl => exact memWrite_eq s v h

/-- Everything `ReadR8` can answer. -/
theorem readR8_eq_next {r : R8} {p : Byte × State} (h : readR8 r s = .next p) :
    s.r8Reaches r = true ∧ p = (s.r8Byte r, s.afterR8 r) := by
  cases r with
  | reg r => exact ⟨rfl, by injection h with h; exact h.symm⟩
  | atHl => exact memRead_eq_next s h

/-- Everything `WriteR8` can answer. -/
theorem writeR8_eq_next {r : R8} {v : Byte} {t : State} (h : writeR8 r v s = .next t) :
    s.r8Reaches r = true ∧ t = s.putR8 r v := by
  cases r with
  | reg r => exact ⟨rfl, by injection h with h; exact h.symm⟩
  | atHl => exact memWrite_eq_next s h

/-- The operand is still reached after it has been read. -/
@[simp] theorem State.r8Reaches_afterR8 (r : R8) : (s.afterR8 r).r8Reaches r = s.r8Reaches r := by
  cases r <;> simp [State.afterR8, State.r8Reaches]

/-- `Push16`: the two writes of the stack (00_scope.md R14). -/
theorem push16_eq (v : Word) (h1 : s.reaches (s.sp - 1) = true)
    (h2 : s.reaches (s.sp - 1 - 1) = true) :
    push16 v s = .next ((((s.setSp (s.sp - 1)).store (s.sp - 1) (highByte v)).setSp
      (s.sp - 1 - 1)).store (s.sp - 1 - 1) (lowByte v)) := by
  simp only [push16, State.setSp_sp]
  rw [memWrite_eq _ _ (by simpa using h1)]
  simp only [andThen_next, State.store_sp, State.setSp_sp]
  rw [memWrite_eq _ _ (by simpa using h2)]

/-- `Pop16`: the two reads of the stack (00_scope.md R14). -/
theorem pop16_eq (h1 : s.reaches s.sp = true) (h2 : s.reaches (s.sp + 1) = true) :
    pop16 s = .next (wordOf (((s.afterLoad s.sp).setSp (s.sp + 1)).loadByte (s.sp + 1)) (s.loadByte s.sp),
      (((s.afterLoad s.sp).setSp (s.sp + 1)).afterLoad (s.sp + 1)).setSp (s.sp + 1 + 1)) := by
  simp only [pop16]
  rw [memRead_eq _ h1]
  simp only [andThen_next, State.afterLoad_sp, State.setSp_sp]
  rw [memRead_eq _ (by simpa using h2)]
  simp

/-- `FetchImm8` (00_scope.md R14). -/
theorem fetchImm8_eq (h : s.reaches s.pc = true) :
    fetchImm8 s = .next (s.loadByte s.pc, (s.afterLoad s.pc).setPc (s.pc + 1)) := by
  simp [fetchImm8, memRead, h]

end Sys2Proof.Machine
end

