-- ==== Sys2Proof/Laws/Bus.lean ====
section
/-! SUPPORT. The Bus: the bounds of the translation, what a store and a read change, and the form of a
state kept. -/

namespace Sys2Proof.Machine

variable (s : State)

/-- The size of the window of a device (20_memory.md R61). -/
def windowSize : Device → Nat
  | .lent l => lentSize l
  | .cartridge => 0xA000
  | .workRam => workRamSize
  | .dummy => 1
  | .highRam => highRamSize
  | .noMeaning => 1

/-- The Bus passes every device an offset inside its window (20_memory.md R83, R96). -/
theorem translate_lt (m : EchoMode) (boot : Bool) (x : Word) :
    (translateAddress m boot x).2 < windowSize (translateAddress m boot x).1 := by
  have := x.isLt
  cases m <;> simp only [translateAddress, translateEcho] <;> (repeat' split) <;>
    simp only [windowSize, lentSize, workRamSize, highRamSize] <;> omega

theorem State.target_lt (x : Word) : (s.target x).2 < windowSize (s.target x).1 :=
  translate_lt _ _ _

theorem State.target_of_eq {x : Word} {d : Device} {n : Nat} (h : s.target x = (d, n)) :
    n < windowSize d := by
  have := s.target_lt x
  rwa [h] at this

/-- Where an access goes depends on the parameters and `boot_active` only. -/
theorem State.target_congr {s t : State} (hc : t.config = s.config) (hb : t.bootActive = s.bootActive)
    (x : Word) : t.target x = s.target x := by simp only [State.target, hc, hb]

/-- From 0x0100 up it does not depend on `boot_active` either. -/
theorem State.target_of_le {s t : State} (hc : t.config = s.config) {x : Word} (hx : 0x100 ≤ x.toNat) :
    t.target x = s.target x := by
  have : ¬ x.toNat < 0x100 := by omega
  simp only [State.target, translateAddress, hc, this, if_false]

/-- An address of 0x0000-0x00FF goes to the boot overlay or the cartridge. -/
theorem State.target_low {x : Word} (hx : x.toNat < 0x100) :
    s.target x = (if s.bootActive then (.lent .bootOverlay, x.toNat) else (.cartridge, x.toNat)) := by
  simp only [State.target, translateAddress, hx, if_true]

/-! ## What a store and a read change, by the device they reach -/

theorem State.store_eq {x : Word} {d : Device} {n : Nat} (h : s.target x = (d, n)) (v : Byte) :
    s.store x v = (s.touch x).deviceWrite d n v := by simp only [State.store, h]

theorem State.afterLoad_eq {x : Word} {d : Device} {n : Nat} (h : s.target x = (d, n)) :
    s.afterLoad x = (s.touch x).afterDeviceRead d := by simp only [State.afterLoad, h]

theorem State.loadByte_eq {x : Word} {d : Device} {n : Nat} (h : s.target x = (d, n)) :
    s.loadByte x = s.deviceByte d n := by simp only [State.loadByte, h]

/-- Only an access of 0x0100 touches `boot_active` (20_memory.md R72). -/
theorem State.touch_of_ne {x : Word} (h : x ≠ 0x0100) : s.touch x = s := by
  have hd : decide (x ≠ 0x0100) = true := decide_eq_true h
  simp only [State.touch, hd, Bool.and_true]

theorem State.store_bootActive_of_ne {x : Word} (v : Byte) (h : x ≠ 0x0100) :
    (s.store x v).bootActive = s.bootActive := by
  have hd : decide (x ≠ 0x0100) = true := decide_eq_true h
  rw [State.store_bootActive, hd, Bool.and_true]

/-- A store to a device changes no byte that another device answers, and no other byte of a RAM. -/
theorem State.deviceByte_deviceWrite {d e : Device} {n k : Nat} (v : Byte)
    (hne : (e, k) ≠ (d, n)) (hl : ∀ l, e ≠ .lent l) (hc : e = .cartridge → d ≠ .cartridge) :
    (s.deviceWrite d n v).deviceByte e k = s.deviceByte e k := by
  cases e with
  | lent l => exact absurd rfl (hl l)
  | cartridge => cases d <;> first | rfl | exact absurd rfl (hc rfl)
  | dummy => rfl
  | noMeaning => rfl
  | workRam =>
    cases d <;> try rfl
    have : k ≠ n := fun h => hne (by rw [h])
    simp only [State.deviceByte, State.deviceWrite, State.workRamByte, Memory.read_store_other _ _ v this]
  | highRam =>
    cases d <;> try rfl
    have : k ≠ n := fun h => hne (by rw [h])
    simp only [State.deviceByte, State.deviceWrite, State.highRamByte, Memory.read_store_other _ _ v this]

/-- A read changes no byte that a device other than a lent one answers. -/
@[simp] theorem State.deviceByte_afterLoad (x : Word) {e : Device} (k : Nat) (hl : ∀ l, e ≠ .lent l) :
    (s.afterLoad x).deviceByte e k = s.deviceByte e k := by
  rcases h : s.target x with ⟨d, n⟩
  rw [State.afterLoad_eq s h]
  cases e with
  | lent l => exact absurd rfl (hl l)
  | cartridge => cases d <;> rfl
  | dummy => rfl
  | noMeaning => rfl
  | workRam => cases d <;> rfl
  | highRam => cases d <;> rfl

/-! ## The form -/

/-- A state in form, as a proposition. -/
theorem State.wf_iff : s.wf = true ↔
    Memory.wf workRamSize unlistedRam s.workRam = true
    ∧ Memory.wf highRamSize unlistedRam s.highRam = true ∧ s.cart.wf = true
    ∧ (∀ l, Memory.wf (lentSize l) unlistedRam (s.ports.get l).promised = true)
    ∧ (∀ w ∈ s.events, w.offset < lentSize w.device)
    ∧ (∀ r, s.fault = some r → r.latchable = true) := by
  constructor
  · intro h
    simp only [State.wf, Bool.and_eq_true, List.all_eq_true, decide_eq_true_eq] at h
    obtain ⟨⟨⟨⟨⟨⟨⟨⟨h1, h2⟩, h3⟩, h4⟩, h5⟩, h6⟩, h7⟩, h8⟩, h9⟩ := h
    refine ⟨h1, h2, h3, fun l => by cases l <;> assumption, h8, fun r hr => ?_⟩
    rw [hr] at h9
    exact h9
  · rintro ⟨h1, h2, h3, h4, h8, h9⟩
    simp only [State.wf, Bool.and_eq_true, List.all_eq_true, decide_eq_true_eq]
    refine ⟨⟨⟨⟨⟨⟨⟨⟨h1, h2⟩, h3⟩, h4 .bootOverlay⟩, h4 .videoRam⟩, h4 .oam⟩, h4 .io⟩, h8⟩, ?_⟩
    cases hf : s.fault with
    | none => rfl
    | some r => exact h9 r hf

@[simp] theorem Ports.get_set_same (p : Ports) (l : Lent) (d : LentDevice) : (p.set l d).get l = d := by
  cases l <;> rfl

theorem Ports.get_set_other (p : Ports) {l m : Lent} (d : LentDevice) (h : m ≠ l) :
    (p.set l d).get m = p.get m := by cases l <;> cases m <;> first | rfl | exact absurd rfl h

/-- A store keeps the form. -/
theorem State.wf_store {s : State} (x : Word) (v : Byte) (hs : s.wf = true) :
    (s.store x v).wf = true := by
  rw [State.wf_iff] at hs ⊢
  obtain ⟨h1, h2, h3, h4, h5, h6⟩ := hs
  rcases h : s.target x with ⟨d, n⟩
  have hn := State.target_of_eq s h
  rw [State.store_eq s h]
  cases d with
  | dummy => exact ⟨h1, h2, h3, h4, h5, h6⟩
  | noMeaning => exact ⟨h1, h2, h3, h4, h5, h6⟩
  | cartridge => exact ⟨h1, h2, Cartridge.wf_write v h3 hn, h4, h5, h6⟩
  | workRam => exact ⟨Memory.wf_store v h1 hn, h2, h3, h4, h5, h6⟩
  | highRam => exact ⟨h1, Memory.wf_store v h2 hn, h3, h4, h5, h6⟩
  | lent l =>
    refine ⟨h1, h2, h3, fun m => ?_, fun w hw => ?_, h6⟩
    · simp only [State.deviceWrite, State.lentWrite, State.touch]
      by_cases hm : m = l
      · subst hm
        rw [Ports.get_set_same]
        by_cases hk : (s.ports.get m).keepsWrites = true
        · simpa [hk] using Memory.wf_store v (h4 m) hn
        · simpa [hk] using h4 m
      · rw [Ports.get_set_other _ _ hm]
        exact h4 m
    · simp only [State.deviceWrite, State.lentWrite, State.touch, List.mem_append,
        List.mem_singleton] at hw
      rcases hw with hw | rfl
      · exact h5 w hw
      · exact hn

/-- A read keeps the form. -/
theorem State.wf_afterLoad {s : State} (x : Word) (hs : s.wf = true) : (s.afterLoad x).wf = true := by
  rcases h : s.target x with ⟨d, n⟩
  rw [State.afterLoad_eq s h]
  cases d <;> exact hs

end Sys2Proof.Machine
end

