-- ==== Sys2Proof/Laws/Forms.lean ====
section
/-! SUPPORT. Every instruction by its form: a case split over the groups of 30_encoding.md R131 to R135
in place of one over all constructors, and what exec calls for each group. -/

namespace Sys2Proof

/-- A property of every instruction, from one proof for each group of the decode tree. -/
theorem Instr.byForm {motive : Instr → Prop}
    (h_class01 : ∀ (d z : R8), motive (Instr.class01 d z))
    (h_aluR8 : ∀ (op : AluOp) (r : R8), motive (Instr.aluR8 op r))
    (h_aluN8 : ∀ (op : AluOp) (n : Byte), motive (Instr.aluN8 op n))
    (h_incR8 : ∀ (r : R8), motive (Instr.incR8 r))
    (h_decR8 : ∀ (r : R8), motive (Instr.decR8 r))
    (h_ldR8N8 : ∀ (r : R8) (n : Byte), motive (Instr.ldR8N8 r n))
    (h_ldPairN16 : ∀ (p : Pair) (nn : Word), motive (Instr.ldPairN16 p nn))
    (h_addHlPair : ∀ (p : Pair), motive (Instr.addHlPair p))
    (h_incPair : ∀ (p : Pair), motive (Instr.incPair p))
    (h_decPair : ∀ (p : Pair), motive (Instr.decPair p))
    (h_pushPair : ∀ (p : StackPair), motive (Instr.pushPair p))
    (h_popPair : ∀ (p : StackPair), motive (Instr.popPair p))
    (h_storeInd : ∀ (p : IndAddr), motive (Instr.storeInd p))
    (h_loadInd : ∀ (p : IndAddr), motive (Instr.loadInd p))
    (h_accOp : ∀ (o : AccOp), motive (Instr.accOp o))
    (h_jrCc : ∀ (cc : Cond) (e : Byte), motive (Instr.jrCc cc e))
    (h_jpCc : ∀ (cc : Cond) (x : Word), motive (Instr.jpCc cc x))
    (h_callCc : ∀ (cc : Cond) (x : Word), motive (Instr.callCc cc x))
    (h_retCc : ∀ (cc : Cond), motive (Instr.retCc cc))
    (h_rst : ∀ (y : Fin 8), motive (Instr.rst y))
    (h_rot : ∀ (o : RotOp) (r : R8), motive (Instr.rot o r))
    (h_bit : ∀ (b : Fin 8) (r : R8), motive (Instr.bit b r))
    (h_res : ∀ (b : Fin 8) (r : R8), motive (Instr.res b r))
    (h_set : ∀ (b : Fin 8) (r : R8), motive (Instr.set b r))
    (h_nop : motive .nop)
    (h_stop : motive .stop)
    (h_di : motive .di)
    (h_ei : motive .ei)
    (h_illegal : ∀ op : Byte, motive (.illegal op))
    (h_prefixCb : motive .prefixCb)
    (h_ldAtA16Sp : ∀ addr : Word, motive (.ldAtA16Sp addr))
    (h_jrE8 : ∀ e : Byte, motive (.jrE8 e))
    (h_ldhAtA8A : ∀ off : Byte, motive (.ldhAtA8A off))
    (h_ldhAAtA8 : ∀ off : Byte, motive (.ldhAAtA8 off))
    (h_ldAtCA : motive .ldAtCA)
    (h_ldAAtC : motive .ldAAtC)
    (h_ldAtA16A : ∀ addr : Word, motive (.ldAtA16A addr))
    (h_ldAAtA16 : ∀ addr : Word, motive (.ldAAtA16 addr))
    (h_addSpE8 : ∀ e : Byte, motive (.addSpE8 e))
    (h_ldHlSpE8 : ∀ e : Byte, motive (.ldHlSpE8 e))
    (h_ldSpHl : motive .ldSpHl)
    (h_ret : motive .ret)
    (h_reti : motive .reti)
    (h_jpHl : motive .jpHl)
    (h_jpA16 : ∀ addr : Word, motive (.jpA16 addr))
    (h_callA16 : ∀ addr : Word, motive (.callA16 addr)) :
    ∀ i : Instr, motive i
  | .nop => h_nop
  | .ldBcN16 nn => h_ldPairN16 .bc nn
  | .ldAtBcA => h_storeInd .bc
  | .incBc => h_incPair .bc
  | .incB => h_incR8 (.reg .b)
  | .decB => h_decR8 (.reg .b)
  | .ldBN8 n => h_ldR8N8 (.reg .b) n
  | .rlca => h_accOp .rlca
  | .ldAtA16Sp addr => h_ldAtA16Sp addr
  | .addHlBc => h_addHlPair .bc
  | .ldAAtBc => h_loadInd .bc
  | .decBc => h_decPair .bc
  | .incC => h_incR8 (.reg .c)
  | .decC => h_decR8 (.reg .c)
  | .ldCN8 n => h_ldR8N8 (.reg .c) n
  | .rrca => h_accOp .rrca
  | .stop => h_stop
  | .ldDeN16 nn => h_ldPairN16 .de nn
  | .ldAtDeA => h_storeInd .de
  | .incDe => h_incPair .de
  | .incD => h_incR8 (.reg .d)
  | .decD => h_decR8 (.reg .d)
  | .ldDN8 n => h_ldR8N8 (.reg .d) n
  | .rla => h_accOp .rla
  | .jrE8 e => h_jrE8 e
  | .addHlDe => h_addHlPair .de
  | .ldAAtDe => h_loadInd .de
  | .decDe => h_decPair .de
  | .incE => h_incR8 (.reg .e)
  | .decE => h_decR8 (.reg .e)
  | .ldEN8 n => h_ldR8N8 (.reg .e) n
  | .rra => h_accOp .rra
  | .jrNzE8 e => h_jrCc .nz e
  | .ldHlN16 nn => h_ldPairN16 .hl nn
  | .ldAtHlIncA => h_storeInd .hlInc
  | .incHl => h_incPair .hl
  | .incH => h_incR8 (.reg .h)
  | .decH => h_decR8 (.reg .h)
  | .ldHN8 n => h_ldR8N8 (.reg .h) n
  | .daa => h_accOp .daa
  | .jrZE8 e => h_jrCc .z e
  | .addHlHl => h_addHlPair .hl
  | .ldAAtHlInc => h_loadInd .hlInc
  | .decHl => h_decPair .hl
  | .incL => h_incR8 (.reg .l)
  | .decL => h_decR8 (.reg .l)
  | .ldLN8 n => h_ldR8N8 (.reg .l) n
  | .cpl => h_accOp .cpl
  | .jrNcE8 e => h_jrCc .nc e
  | .ldSpN16 nn => h_ldPairN16 .sp nn
  | .ldAtHlDecA => h_storeInd .hlDec
  | .incSp => h_incPair .sp
  | .incAtHl => h_incR8 .atHl
  | .decAtHl => h_decR8 .atHl
  | .ldAtHlN8 n => h_ldR8N8 .atHl n
  | .scf => h_accOp .scf
  | .jrCE8 e => h_jrCc .c e
  | .addHlSp => h_addHlPair .sp
  | .ldAAtHlDec => h_loadInd .hlDec
  | .decSp => h_decPair .sp
  | .incA => h_incR8 (.reg .a)
  | .decA => h_decR8 (.reg .a)
  | .ldAN8 n => h_ldR8N8 (.reg .a) n
  | .ccf => h_accOp .ccf
  | .ldBB => h_class01 (.reg .b) (.reg .b)
  | .ldBC => h_class01 (.reg .b) (.reg .c)
  | .ldBD => h_class01 (.reg .b) (.reg .d)
  | .ldBE => h_class01 (.reg .b) (.reg .e)
  | .ldBH => h_class01 (.reg .b) (.reg .h)
  | .ldBL => h_class01 (.reg .b) (.reg .l)
  | .ldBAtHl => h_class01 (.reg .b) .atHl
  | .ldBA => h_class01 (.reg .b) (.reg .a)
  | .ldCB => h_class01 (.reg .c) (.reg .b)
  | .ldCC => h_class01 (.reg .c) (.reg .c)
  | .ldCD => h_class01 (.reg .c) (.reg .d)
  | .ldCE => h_class01 (.reg .c) (.reg .e)
  | .ldCH => h_class01 (.reg .c) (.reg .h)
  | .ldCL => h_class01 (.reg .c) (.reg .l)
  | .ldCAtHl => h_class01 (.reg .c) .atHl
  | .ldCA => h_class01 (.reg .c) (.reg .a)
  | .ldDB => h_class01 (.reg .d) (.reg .b)
  | .ldDC => h_class01 (.reg .d) (.reg .c)
  | .ldDD => h_class01 (.reg .d) (.reg .d)
  | .ldDE => h_class01 (.reg .d) (.reg .e)
  | .ldDH => h_class01 (.reg .d) (.reg .h)
  | .ldDL => h_class01 (.reg .d) (.reg .l)
  | .ldDAtHl => h_class01 (.reg .d) .atHl
  | .ldDA => h_class01 (.reg .d) (.reg .a)
  | .ldEB => h_class01 (.reg .e) (.reg .b)
  | .ldEC => h_class01 (.reg .e) (.reg .c)
  | .ldED => h_class01 (.reg .e) (.reg .d)
  | .ldEE => h_class01 (.reg .e) (.reg .e)
  | .ldEH => h_class01 (.reg .e) (.reg .h)
  | .ldEL => h_class01 (.reg .e) (.reg .l)
  | .ldEAtHl => h_class01 (.reg .e) .atHl
  | .ldEA => h_class01 (.reg .e) (.reg .a)
  | .ldHB => h_class01 (.reg .h) (.reg .b)
  | .ldHC => h_class01 (.reg .h) (.reg .c)
  | .ldHD => h_class01 (.reg .h) (.reg .d)
  | .ldHE => h_class01 (.reg .h) (.reg .e)
  | .ldHH => h_class01 (.reg .h) (.reg .h)
  | .ldHL => h_class01 (.reg .h) (.reg .l)
  | .ldHAtHl => h_class01 (.reg .h) .atHl
  | .ldHA => h_class01 (.reg .h) (.reg .a)
  | .ldLB => h_class01 (.reg .l) (.reg .b)
  | .ldLC => h_class01 (.reg .l) (.reg .c)
  | .ldLD => h_class01 (.reg .l) (.reg .d)
  | .ldLE => h_class01 (.reg .l) (.reg .e)
  | .ldLH => h_class01 (.reg .l) (.reg .h)
  | .ldLL => h_class01 (.reg .l) (.reg .l)
  | .ldLAtHl => h_class01 (.reg .l) .atHl
  | .ldLA => h_class01 (.reg .l) (.reg .a)
  | .ldAtHlB => h_class01 .atHl (.reg .b)
  | .ldAtHlC => h_class01 .atHl (.reg .c)
  | .ldAtHlD => h_class01 .atHl (.reg .d)
  | .ldAtHlE => h_class01 .atHl (.reg .e)
  | .ldAtHlH => h_class01 .atHl (.reg .h)
  | .ldAtHlL => h_class01 .atHl (.reg .l)
  | .halt => h_class01 .atHl .atHl
  | .ldAtHlA => h_class01 .atHl (.reg .a)
  | .ldAB => h_class01 (.reg .a) (.reg .b)
  | .ldAC => h_class01 (.reg .a) (.reg .c)
  | .ldAD => h_class01 (.reg .a) (.reg .d)
  | .ldAE => h_class01 (.reg .a) (.reg .e)
  | .ldAH => h_class01 (.reg .a) (.reg .h)
  | .ldAL => h_class01 (.reg .a) (.reg .l)
  | .ldAAtHl => h_class01 (.reg .a) .atHl
  | .ldAA => h_class01 (.reg .a) (.reg .a)
  | .addAB => h_aluR8 .add (.reg .b)
  | .addAC => h_aluR8 .add (.reg .c)
  | .addAD => h_aluR8 .add (.reg .d)
  | .addAE => h_aluR8 .add (.reg .e)
  | .addAH => h_aluR8 .add (.reg .h)
  | .addAL => h_aluR8 .add (.reg .l)
  | .addAAtHl => h_aluR8 .add .atHl
  | .addAA => h_aluR8 .add (.reg .a)
  | .adcAB => h_aluR8 .adc (.reg .b)
  | .adcAC => h_aluR8 .adc (.reg .c)
  | .adcAD => h_aluR8 .adc (.reg .d)
  | .adcAE => h_aluR8 .adc (.reg .e)
  | .adcAH => h_aluR8 .adc (.reg .h)
  | .adcAL => h_aluR8 .adc (.reg .l)
  | .adcAAtHl => h_aluR8 .adc .atHl
  | .adcAA => h_aluR8 .adc (.reg .a)
  | .subAB => h_aluR8 .sub (.reg .b)
  | .subAC => h_aluR8 .sub (.reg .c)
  | .subAD => h_aluR8 .sub (.reg .d)
  | .subAE => h_aluR8 .sub (.reg .e)
  | .subAH => h_aluR8 .sub (.reg .h)
  | .subAL => h_aluR8 .sub (.reg .l)
  | .subAAtHl => h_aluR8 .sub .atHl
  | .subAA => h_aluR8 .sub (.reg .a)
  | .sbcAB => h_aluR8 .sbc (.reg .b)
  | .sbcAC => h_aluR8 .sbc (.reg .c)
  | .sbcAD => h_aluR8 .sbc (.reg .d)
  | .sbcAE => h_aluR8 .sbc (.reg .e)
  | .sbcAH => h_aluR8 .sbc (.reg .h)
  | .sbcAL => h_aluR8 .sbc (.reg .l)
  | .sbcAAtHl => h_aluR8 .sbc .atHl
  | .sbcAA => h_aluR8 .sbc (.reg .a)
  | .andAB => h_aluR8 .and (.reg .b)
  | .andAC => h_aluR8 .and (.reg .c)
  | .andAD => h_aluR8 .and (.reg .d)
  | .andAE => h_aluR8 .and (.reg .e)
  | .andAH => h_aluR8 .and (.reg .h)
  | .andAL => h_aluR8 .and (.reg .l)
  | .andAAtHl => h_aluR8 .and .atHl
  | .andAA => h_aluR8 .and (.reg .a)
  | .xorAB => h_aluR8 .xor (.reg .b)
  | .xorAC => h_aluR8 .xor (.reg .c)
  | .xorAD => h_aluR8 .xor (.reg .d)
  | .xorAE => h_aluR8 .xor (.reg .e)
  | .xorAH => h_aluR8 .xor (.reg .h)
  | .xorAL => h_aluR8 .xor (.reg .l)
  | .xorAAtHl => h_aluR8 .xor .atHl
  | .xorAA => h_aluR8 .xor (.reg .a)
  | .orAB => h_aluR8 .or (.reg .b)
  | .orAC => h_aluR8 .or (.reg .c)
  | .orAD => h_aluR8 .or (.reg .d)
  | .orAE => h_aluR8 .or (.reg .e)
  | .orAH => h_aluR8 .or (.reg .h)
  | .orAL => h_aluR8 .or (.reg .l)
  | .orAAtHl => h_aluR8 .or .atHl
  | .orAA => h_aluR8 .or (.reg .a)
  | .cpAB => h_aluR8 .cp (.reg .b)
  | .cpAC => h_aluR8 .cp (.reg .c)
  | .cpAD => h_aluR8 .cp (.reg .d)
  | .cpAE => h_aluR8 .cp (.reg .e)
  | .cpAH => h_aluR8 .cp (.reg .h)
  | .cpAL => h_aluR8 .cp (.reg .l)
  | .cpAAtHl => h_aluR8 .cp .atHl
  | .cpAA => h_aluR8 .cp (.reg .a)
  | .retNz => h_retCc .nz
  | .popBc => h_popPair .bc
  | .jpNzA16 addr => h_jpCc .nz addr
  | .jpA16 addr => h_jpA16 addr
  | .callNzA16 addr => h_callCc .nz addr
  | .pushBc => h_pushPair .bc
  | .addAN8 n => h_aluN8 .add n
  | .rst00 => h_rst 0
  | .retZ => h_retCc .z
  | .ret => h_ret
  | .jpZA16 addr => h_jpCc .z addr
  | .prefixCb => h_prefixCb
  | .callZA16 addr => h_callCc .z addr
  | .callA16 addr => h_callA16 addr
  | .adcAN8 n => h_aluN8 .adc n
  | .rst08 => h_rst 1
  | .retNc => h_retCc .nc
  | .popDe => h_popPair .de
  | .jpNcA16 addr => h_jpCc .nc addr
  | .illegal op => h_illegal op
  | .callNcA16 addr => h_callCc .nc addr
  | .pushDe => h_pushPair .de
  | .subAN8 n => h_aluN8 .sub n
  | .rst10 => h_rst 2
  | .retC => h_retCc .c
  | .reti => h_reti
  | .jpCA16 addr => h_jpCc .c addr
  | .callCA16 addr => h_callCc .c addr
  | .sbcAN8 n => h_aluN8 .sbc n
  | .rst18 => h_rst 3
  | .ldhAtA8A off => h_ldhAtA8A off
  | .popHl => h_popPair .hl
  | .ldAtCA => h_ldAtCA
  | .pushHl => h_pushPair .hl
  | .andAN8 n => h_aluN8 .and n
  | .rst20 => h_rst 4
  | .addSpE8 e => h_addSpE8 e
  | .jpHl => h_jpHl
  | .ldAtA16A addr => h_ldAtA16A addr
  | .xorAN8 n => h_aluN8 .xor n
  | .rst28 => h_rst 5
  | .ldhAAtA8 off => h_ldhAAtA8 off
  | .popAf => h_popPair .af
  | .ldAAtC => h_ldAAtC
  | .di => h_di
  | .pushAf => h_pushPair .af
  | .orAN8 n => h_aluN8 .or n
  | .rst30 => h_rst 6
  | .ldHlSpE8 e => h_ldHlSpE8 e
  | .ldSpHl => h_ldSpHl
  | .ldAAtA16 addr => h_ldAAtA16 addr
  | .ei => h_ei
  | .cpAN8 n => h_aluN8 .cp n
  | .rst38 => h_rst 7
  | .rlcB => h_rot .rlc (.reg .b)
  | .rlcC => h_rot .rlc (.reg .c)
  | .rlcD => h_rot .rlc (.reg .d)
  | .rlcE => h_rot .rlc (.reg .e)
  | .rlcH => h_rot .rlc (.reg .h)
  | .rlcL => h_rot .rlc (.reg .l)
  | .rlcAtHl => h_rot .rlc .atHl
  | .rlcA => h_rot .rlc (.reg .a)
  | .rrcB => h_rot .rrc (.reg .b)
  | .rrcC => h_rot .rrc (.reg .c)
  | .rrcD => h_rot .rrc (.reg .d)
  | .rrcE => h_rot .rrc (.reg .e)
  | .rrcH => h_rot .rrc (.reg .h)
  | .rrcL => h_rot .rrc (.reg .l)
  | .rrcAtHl => h_rot .rrc .atHl
  | .rrcA => h_rot .rrc (.reg .a)
  | .rlB => h_rot .rl (.reg .b)
  | .rlC => h_rot .rl (.reg .c)
  | .rlD => h_rot .rl (.reg .d)
  | .rlE => h_rot .rl (.reg .e)
  | .rlH => h_rot .rl (.reg .h)
  | .rlL => h_rot .rl (.reg .l)
  | .rlAtHl => h_rot .rl .atHl
  | .rlA => h_rot .rl (.reg .a)
  | .rrB => h_rot .rr (.reg .b)
  | .rrC => h_rot .rr (.reg .c)
  | .rrD => h_rot .rr (.reg .d)
  | .rrE => h_rot .rr (.reg .e)
  | .rrH => h_rot .rr (.reg .h)
  | .rrL => h_rot .rr (.reg .l)
  | .rrAtHl => h_rot .rr .atHl
  | .rrA => h_rot .rr (.reg .a)
  | .slaB => h_rot .sla (.reg .b)
  | .slaC => h_rot .sla (.reg .c)
  | .slaD => h_rot .sla (.reg .d)
  | .slaE => h_rot .sla (.reg .e)
  | .slaH => h_rot .sla (.reg .h)
  | .slaL => h_rot .sla (.reg .l)
  | .slaAtHl => h_rot .sla .atHl
  | .slaA => h_rot .sla (.reg .a)
  | .sraB => h_rot .sra (.reg .b)
  | .sraC => h_rot .sra (.reg .c)
  | .sraD => h_rot .sra (.reg .d)
  | .sraE => h_rot .sra (.reg .e)
  | .sraH => h_rot .sra (.reg .h)
  | .sraL => h_rot .sra (.reg .l)
  | .sraAtHl => h_rot .sra .atHl
  | .sraA => h_rot .sra (.reg .a)
  | .swapB => h_rot .swap (.reg .b)
  | .swapC => h_rot .swap (.reg .c)
  | .swapD => h_rot .swap (.reg .d)
  | .swapE => h_rot .swap (.reg .e)
  | .swapH => h_rot .swap (.reg .h)
  | .swapL => h_rot .swap (.reg .l)
  | .swapAtHl => h_rot .swap .atHl
  | .swapA => h_rot .swap (.reg .a)
  | .srlB => h_rot .srl (.reg .b)
  | .srlC => h_rot .srl (.reg .c)
  | .srlD => h_rot .srl (.reg .d)
  | .srlE => h_rot .srl (.reg .e)
  | .srlH => h_rot .srl (.reg .h)
  | .srlL => h_rot .srl (.reg .l)
  | .srlAtHl => h_rot .srl .atHl
  | .srlA => h_rot .srl (.reg .a)
  | .bit0B => h_bit 0 (.reg .b)
  | .bit0C => h_bit 0 (.reg .c)
  | .bit0D => h_bit 0 (.reg .d)
  | .bit0E => h_bit 0 (.reg .e)
  | .bit0H => h_bit 0 (.reg .h)
  | .bit0L => h_bit 0 (.reg .l)
  | .bit0AtHl => h_bit 0 .atHl
  | .bit0A => h_bit 0 (.reg .a)
  | .bit1B => h_bit 1 (.reg .b)
  | .bit1C => h_bit 1 (.reg .c)
  | .bit1D => h_bit 1 (.reg .d)
  | .bit1E => h_bit 1 (.reg .e)
  | .bit1H => h_bit 1 (.reg .h)
  | .bit1L => h_bit 1 (.reg .l)
  | .bit1AtHl => h_bit 1 .atHl
  | .bit1A => h_bit 1 (.reg .a)
  | .bit2B => h_bit 2 (.reg .b)
  | .bit2C => h_bit 2 (.reg .c)
  | .bit2D => h_bit 2 (.reg .d)
  | .bit2E => h_bit 2 (.reg .e)
  | .bit2H => h_bit 2 (.reg .h)
  | .bit2L => h_bit 2 (.reg .l)
  | .bit2AtHl => h_bit 2 .atHl
  | .bit2A => h_bit 2 (.reg .a)
  | .bit3B => h_bit 3 (.reg .b)
  | .bit3C => h_bit 3 (.reg .c)
  | .bit3D => h_bit 3 (.reg .d)
  | .bit3E => h_bit 3 (.reg .e)
  | .bit3H => h_bit 3 (.reg .h)
  | .bit3L => h_bit 3 (.reg .l)
  | .bit3AtHl => h_bit 3 .atHl
  | .bit3A => h_bit 3 (.reg .a)
  | .bit4B => h_bit 4 (.reg .b)
  | .bit4C => h_bit 4 (.reg .c)
  | .bit4D => h_bit 4 (.reg .d)
  | .bit4E => h_bit 4 (.reg .e)
  | .bit4H => h_bit 4 (.reg .h)
  | .bit4L => h_bit 4 (.reg .l)
  | .bit4AtHl => h_bit 4 .atHl
  | .bit4A => h_bit 4 (.reg .a)
  | .bit5B => h_bit 5 (.reg .b)
  | .bit5C => h_bit 5 (.reg .c)
  | .bit5D => h_bit 5 (.reg .d)
  | .bit5E => h_bit 5 (.reg .e)
  | .bit5H => h_bit 5 (.reg .h)
  | .bit5L => h_bit 5 (.reg .l)
  | .bit5AtHl => h_bit 5 .atHl
  | .bit5A => h_bit 5 (.reg .a)
  | .bit6B => h_bit 6 (.reg .b)
  | .bit6C => h_bit 6 (.reg .c)
  | .bit6D => h_bit 6 (.reg .d)
  | .bit6E => h_bit 6 (.reg .e)
  | .bit6H => h_bit 6 (.reg .h)
  | .bit6L => h_bit 6 (.reg .l)
  | .bit6AtHl => h_bit 6 .atHl
  | .bit6A => h_bit 6 (.reg .a)
  | .bit7B => h_bit 7 (.reg .b)
  | .bit7C => h_bit 7 (.reg .c)
  | .bit7D => h_bit 7 (.reg .d)
  | .bit7E => h_bit 7 (.reg .e)
  | .bit7H => h_bit 7 (.reg .h)
  | .bit7L => h_bit 7 (.reg .l)
  | .bit7AtHl => h_bit 7 .atHl
  | .bit7A => h_bit 7 (.reg .a)
  | .res0B => h_res 0 (.reg .b)
  | .res0C => h_res 0 (.reg .c)
  | .res0D => h_res 0 (.reg .d)
  | .res0E => h_res 0 (.reg .e)
  | .res0H => h_res 0 (.reg .h)
  | .res0L => h_res 0 (.reg .l)
  | .res0AtHl => h_res 0 .atHl
  | .res0A => h_res 0 (.reg .a)
  | .res1B => h_res 1 (.reg .b)
  | .res1C => h_res 1 (.reg .c)
  | .res1D => h_res 1 (.reg .d)
  | .res1E => h_res 1 (.reg .e)
  | .res1H => h_res 1 (.reg .h)
  | .res1L => h_res 1 (.reg .l)
  | .res1AtHl => h_res 1 .atHl
  | .res1A => h_res 1 (.reg .a)
  | .res2B => h_res 2 (.reg .b)
  | .res2C => h_res 2 (.reg .c)
  | .res2D => h_res 2 (.reg .d)
  | .res2E => h_res 2 (.reg .e)
  | .res2H => h_res 2 (.reg .h)
  | .res2L => h_res 2 (.reg .l)
  | .res2AtHl => h_res 2 .atHl
  | .res2A => h_res 2 (.reg .a)
  | .res3B => h_res 3 (.reg .b)
  | .res3C => h_res 3 (.reg .c)
  | .res3D => h_res 3 (.reg .d)
  | .res3E => h_res 3 (.reg .e)
  | .res3H => h_res 3 (.reg .h)
  | .res3L => h_res 3 (.reg .l)
  | .res3AtHl => h_res 3 .atHl
  | .res3A => h_res 3 (.reg .a)
  | .res4B => h_res 4 (.reg .b)
  | .res4C => h_res 4 (.reg .c)
  | .res4D => h_res 4 (.reg .d)
  | .res4E => h_res 4 (.reg .e)
  | .res4H => h_res 4 (.reg .h)
  | .res4L => h_res 4 (.reg .l)
  | .res4AtHl => h_res 4 .atHl
  | .res4A => h_res 4 (.reg .a)
  | .res5B => h_res 5 (.reg .b)
  | .res5C => h_res 5 (.reg .c)
  | .res5D => h_res 5 (.reg .d)
  | .res5E => h_res 5 (.reg .e)
  | .res5H => h_res 5 (.reg .h)
  | .res5L => h_res 5 (.reg .l)
  | .res5AtHl => h_res 5 .atHl
  | .res5A => h_res 5 (.reg .a)
  | .res6B => h_res 6 (.reg .b)
  | .res6C => h_res 6 (.reg .c)
  | .res6D => h_res 6 (.reg .d)
  | .res6E => h_res 6 (.reg .e)
  | .res6H => h_res 6 (.reg .h)
  | .res6L => h_res 6 (.reg .l)
  | .res6AtHl => h_res 6 .atHl
  | .res6A => h_res 6 (.reg .a)
  | .res7B => h_res 7 (.reg .b)
  | .res7C => h_res 7 (.reg .c)
  | .res7D => h_res 7 (.reg .d)
  | .res7E => h_res 7 (.reg .e)
  | .res7H => h_res 7 (.reg .h)
  | .res7L => h_res 7 (.reg .l)
  | .res7AtHl => h_res 7 .atHl
  | .res7A => h_res 7 (.reg .a)
  | .set0B => h_set 0 (.reg .b)
  | .set0C => h_set 0 (.reg .c)
  | .set0D => h_set 0 (.reg .d)
  | .set0E => h_set 0 (.reg .e)
  | .set0H => h_set 0 (.reg .h)
  | .set0L => h_set 0 (.reg .l)
  | .set0AtHl => h_set 0 .atHl
  | .set0A => h_set 0 (.reg .a)
  | .set1B => h_set 1 (.reg .b)
  | .set1C => h_set 1 (.reg .c)
  | .set1D => h_set 1 (.reg .d)
  | .set1E => h_set 1 (.reg .e)
  | .set1H => h_set 1 (.reg .h)
  | .set1L => h_set 1 (.reg .l)
  | .set1AtHl => h_set 1 .atHl
  | .set1A => h_set 1 (.reg .a)
  | .set2B => h_set 2 (.reg .b)
  | .set2C => h_set 2 (.reg .c)
  | .set2D => h_set 2 (.reg .d)
  | .set2E => h_set 2 (.reg .e)
  | .set2H => h_set 2 (.reg .h)
  | .set2L => h_set 2 (.reg .l)
  | .set2AtHl => h_set 2 .atHl
  | .set2A => h_set 2 (.reg .a)
  | .set3B => h_set 3 (.reg .b)
  | .set3C => h_set 3 (.reg .c)
  | .set3D => h_set 3 (.reg .d)
  | .set3E => h_set 3 (.reg .e)
  | .set3H => h_set 3 (.reg .h)
  | .set3L => h_set 3 (.reg .l)
  | .set3AtHl => h_set 3 .atHl
  | .set3A => h_set 3 (.reg .a)
  | .set4B => h_set 4 (.reg .b)
  | .set4C => h_set 4 (.reg .c)
  | .set4D => h_set 4 (.reg .d)
  | .set4E => h_set 4 (.reg .e)
  | .set4H => h_set 4 (.reg .h)
  | .set4L => h_set 4 (.reg .l)
  | .set4AtHl => h_set 4 .atHl
  | .set4A => h_set 4 (.reg .a)
  | .set5B => h_set 5 (.reg .b)
  | .set5C => h_set 5 (.reg .c)
  | .set5D => h_set 5 (.reg .d)
  | .set5E => h_set 5 (.reg .e)
  | .set5H => h_set 5 (.reg .h)
  | .set5L => h_set 5 (.reg .l)
  | .set5AtHl => h_set 5 .atHl
  | .set5A => h_set 5 (.reg .a)
  | .set6B => h_set 6 (.reg .b)
  | .set6C => h_set 6 (.reg .c)
  | .set6D => h_set 6 (.reg .d)
  | .set6E => h_set 6 (.reg .e)
  | .set6H => h_set 6 (.reg .h)
  | .set6L => h_set 6 (.reg .l)
  | .set6AtHl => h_set 6 .atHl
  | .set6A => h_set 6 (.reg .a)
  | .set7B => h_set 7 (.reg .b)
  | .set7C => h_set 7 (.reg .c)
  | .set7D => h_set 7 (.reg .d)
  | .set7E => h_set 7 (.reg .e)
  | .set7H => h_set 7 (.reg .h)
  | .set7L => h_set 7 (.reg .l)
  | .set7AtHl => h_set 7 .atHl
  | .set7A => h_set 7 (.reg .a)

end Sys2Proof

namespace Sys2Proof.Machine

variable (s : State)

/-- Class 01: HALT at the pair (110, 110), else a load. -/
theorem exec_class01 (dst src : R8) : exec (Instr.class01 dst src) s =
    (if dst = .atHl ∧ src = .atHl then halt s else ldR8R8 dst src s) := by
  rcases dst with r | _ <;> rcases src with q | _ <;> (try cases r) <;> (try cases q) <;> rfl

/-- Class 00, z = 111. -/
theorem exec_accOp (o : AccOp) : exec (Instr.accOp o) s =
    (match o with
      | .rlca => rotA .rlc s
      | .rrca => rotA .rrc s
      | .rla => rotA .rl s
      | .rra => rotA .rr s
      | .daa => daa s
      | .cpl => cpl s
      | .scf => scf s
      | .ccf => ccf s) := by cases o <;> rfl

theorem exec_aluR8 (op : AluOp) (r : R8) : exec (Instr.aluR8 op r) s = aluR8 op r s := by
  cases op <;> rcases r with r | _ <;> (try cases r) <;> rfl
theorem exec_aluN8 (op : AluOp) (n : Byte) : exec (Instr.aluN8 op n) s = aluN8 op n s := by
  cases op <;> rfl
theorem exec_incR8 (r : R8) : exec (Instr.incR8 r) s = incR8 r s := by
  rcases r with r | _ <;> (try cases r) <;> rfl
theorem exec_decR8 (r : R8) : exec (Instr.decR8 r) s = decR8 r s := by
  rcases r with r | _ <;> (try cases r) <;> rfl
theorem exec_ldR8N8 (r : R8) (n : Byte) : exec (Instr.ldR8N8 r n) s = ldR8N8 r n s := by
  rcases r with r | _ <;> (try cases r) <;> rfl
theorem exec_ldPairN16 (p : Pair) (nn : Word) : exec (Instr.ldPairN16 p nn) s = ldPair p nn s := by
  cases p <;> rfl
theorem exec_addHlPair (p : Pair) : exec (Instr.addHlPair p) s = addHl p s := by
  cases p <;> rfl
theorem exec_incPair (p : Pair) : exec (Instr.incPair p) s = incPair p s := by
  cases p <;> rfl
theorem exec_decPair (p : Pair) : exec (Instr.decPair p) s = decPair p s := by
  cases p <;> rfl
theorem exec_pushPair (p : StackPair) : exec (Instr.pushPair p) s = pushPair p s := by
  cases p <;> rfl
theorem exec_popPair (p : StackPair) : exec (Instr.popPair p) s = popPair p s := by
  cases p <;> rfl
theorem exec_storeInd (p : IndAddr) : exec (Instr.storeInd p) s = storeAInd p s := by
  cases p <;> rfl
theorem exec_loadInd (p : IndAddr) : exec (Instr.loadInd p) s = loadAInd p s := by
  cases p <;> rfl
theorem exec_jrCc (cc : Cond) (e : Byte) : exec (Instr.jrCc cc e) s = jumpRelativeIf cc e s := by
  cases cc <;> rfl
theorem exec_jpCc (cc : Cond) (x : Word) : exec (Instr.jpCc cc x) s = jumpIf cc x s := by
  cases cc <;> rfl
theorem exec_callCc (cc : Cond) (x : Word) : exec (Instr.callCc cc x) s = callIf cc x s := by
  cases cc <;> rfl
theorem exec_retCc (cc : Cond) : exec (Instr.retCc cc) s = retIf cc s := by
  cases cc <;> rfl
theorem exec_rst (y : Fin 8) : exec (Instr.rst y) s = restart y s := by
  match y with
  | 0 => rfl | 1 => rfl | 2 => rfl | 3 => rfl | 4 => rfl | 5 => rfl | 6 => rfl | 7 => rfl
theorem exec_rot (o : RotOp) (r : R8) : exec (Instr.rot o r) s = rotR8 o r s := by
  cases o <;> rcases r with r | _ <;> (try cases r) <;> rfl
theorem exec_bit (b : Fin 8) (r : R8) : exec (Instr.bit b r) s = bitR8 b r s := by
  fin_cases b <;> rcases r with r | _ <;> (try cases r) <;> rfl
theorem exec_res (b : Fin 8) (r : R8) : exec (Instr.res b r) s = resR8 b r s := by
  fin_cases b <;> rcases r with r | _ <;> (try cases r) <;> rfl
theorem exec_set (b : Fin 8) (r : R8) : exec (Instr.set b r) s = setR8 b r s := by
  fin_cases b <;> rcases r with r | _ <;> (try cases r) <;> rfl

end Sys2Proof.Machine
end

