-- ==== Sys2Proof/Laws/Meanings.lean ====
section
/-! SUPPORT. One lemma per operation of the instruction families: exactly when it answers a next state,
and which. The first case is the fault of an unwritten read (60_exceptions.md R418). -/

namespace Sys2Proof.Machine

variable {s t : State}

theorem next_inj {α : Type} {x y : α} : (Host.Outcome.next x : Res α) = .next y ↔ y = x :=
  ⟨fun h => by injection h with h; exact h.symm, fun h => by rw [h]⟩

/-- Reads of registers and flags before a change of the state that always completes. -/
theorem reading_next_next_iff {names : List RegName} {len : Nat} {u : State} :
    reading names len s (.next u) = .next t ↔
      s.stopsUnread names len t ∨ s.firstUnwritten names = none ∧ t = u := by
  rw [reading_next_iff, next_inj]

/-! ## Bus and operand access, as equivalences -/

theorem memRead_next_iff {x : Word} {p : Byte × State} :
    memRead x s = .next p ↔ s.reaches x = true ∧ p = (s.loadByte x, s.afterLoad x) :=
  ⟨memRead_eq_next s, fun ⟨h, e⟩ => by rw [memRead_eq s h, e]⟩

theorem memWrite_next_iff {x : Word} {v : Byte} :
    memWrite x v s = .next t ↔ s.reaches x = true ∧ t = s.store x v :=
  ⟨memWrite_eq_next s, fun ⟨h, e⟩ => by rw [memWrite_eq s v h, e]⟩

theorem readR8_next_iff {r : R8} {p : Byte × State} :
    readR8 r s = .next p ↔ s.r8Reaches r = true ∧ p = (s.r8Byte r, s.afterR8 r) :=
  ⟨readR8_eq_next s, fun ⟨h, e⟩ => by rw [readR8_eq s h, e]⟩

theorem writeR8_next_iff {r : R8} {v : Byte} :
    writeR8 r v s = .next t ↔ s.r8Reaches r = true ∧ t = s.putR8 r v :=
  ⟨writeR8_eq_next s, fun ⟨h, e⟩ => by rw [writeR8_eq s v h, e]⟩

/-- Reading an operand changes what no operand's address reaches. -/
@[simp] theorem State.r8Reaches_afterR8' (r q : R8) : (s.afterR8 r).r8Reaches q = s.r8Reaches q := by
  cases r <;> cases q <;> simp [State.afterR8, State.r8Reaches]

/-! ## Loads -/

theorem ldR8R8_next_iff {dst src : R8} : ldR8R8 dst src s = .next t ↔
    s.stopsUnread (r8AddressReads dst ++ r8Reads src) 1 t ∨
      s.firstUnwritten (r8AddressReads dst ++ r8Reads src) = none ∧
      ((s.r8Reaches src = true ∧ s.r8Reaches dst = true) ∧
        t = (s.afterR8 src).putR8 dst (s.r8Byte src)) := by
  rw [ldR8R8, reading_next_iff]
  refine or_congr_right (and_congr_right fun _ => ?_)
  simp only [andThen_eq_next, readR8_next_iff]
  constructor
  · rintro ⟨_, ⟨h, rfl⟩, h'⟩
    rw [writeR8_next_iff, State.r8Reaches_afterR8'] at h'
    exact ⟨⟨h, h'.1⟩, h'.2⟩
  · rintro ⟨⟨h, h'⟩, e⟩
    exact ⟨_, ⟨h, rfl⟩, writeR8_next_iff.2 ⟨by simpa using h', e⟩⟩

theorem ldR8N8_next_iff {r : R8} {n : Byte} :
    ldR8N8 r n s = .next t ↔
    s.stopsUnread (r8AddressReads r) 2 t ∨ s.firstUnwritten (r8AddressReads r) = none ∧
      (s.r8Reaches r = true ∧ t = s.putR8 r n) := by
  rw [ldR8N8, reading_next_iff]
  refine or_congr_right (and_congr_right fun _ => ?_)
  exact writeR8_next_iff

theorem storeA_next_iff {x : Word} :
    storeA x s = .next t ↔ s.reaches x = true ∧ t = s.store x s.a := memWrite_next_iff

theorem loadA_next_iff {x : Word} :
    loadA x s = .next t ↔ s.reaches x = true ∧ t = (s.afterLoad x).setReg .a (s.loadByte x) := by
  simp only [loadA, andThen_eq_next, memRead_next_iff]
  constructor
  · rintro ⟨_, ⟨h, rfl⟩, h'⟩; exact ⟨h, next_inj.1 h'⟩
  · rintro ⟨h, e⟩; exact ⟨_, ⟨h, rfl⟩, next_inj.2 e⟩

theorem storeAInd_next_iff {p : IndAddr} : storeAInd p s = .next t ↔
    s.stopsUnread (indReads p ++ [.reg .a]) 1 t ∨
      s.firstUnwritten (indReads p ++ [.reg .a]) = none ∧
      (s.reaches (s.indAddress p) = true ∧ t = (s.store (s.indAddress p) s.a).afterInd p) := by
  rw [storeAInd, reading_next_iff]
  refine or_congr_right (and_congr_right fun _ => ?_)
  simp only [andThen_eq_next, storeA_next_iff]
  constructor
  · rintro ⟨_, ⟨h, rfl⟩, h'⟩; exact ⟨h, next_inj.1 h'⟩
  · rintro ⟨h, e⟩; exact ⟨_, ⟨h, rfl⟩, next_inj.2 e⟩

theorem loadAInd_next_iff {p : IndAddr} : loadAInd p s = .next t ↔
    s.stopsUnread (indReads p) 1 t ∨ s.firstUnwritten (indReads p) = none ∧
      (s.reaches (s.indAddress p) = true ∧
        t = ((s.afterLoad (s.indAddress p)).setReg .a (s.loadByte (s.indAddress p))).afterInd p) := by
  rw [loadAInd, reading_next_iff]
  refine or_congr_right (and_congr_right fun _ => ?_)
  simp only [andThen_eq_next, loadA_next_iff]
  constructor
  · rintro ⟨_, ⟨h, rfl⟩, h'⟩; exact ⟨h, next_inj.1 h'⟩
  · rintro ⟨h, e⟩; exact ⟨_, ⟨h, rfl⟩, next_inj.2 e⟩

theorem storeSp_next_iff {x : Word} : storeSp x s = .next t ↔
    s.stopsUnread [.sp] 3 t ∨ s.firstUnwritten [.sp] = none ∧
      ((s.reaches x = true ∧ s.reaches (x + 1) = true) ∧
        t = (s.store x (lowByte s.sp)).store (x + 1) (highByte s.sp)) := by
  rw [storeSp, reading_next_iff]
  refine or_congr_right (and_congr_right fun _ => ?_)
  simp only [andThen_eq_next, memWrite_next_iff]
  constructor
  · rintro ⟨_, ⟨h, rfl⟩, h', e⟩; exact ⟨⟨h, by simpa using h'⟩, e⟩
  · rintro ⟨⟨h, h'⟩, e⟩; exact ⟨_, ⟨h, rfl⟩, by simpa using h', e⟩

/-! ## The stack -/

/-- The state after `Push16(v)` where both addresses have a meaning. -/
def State.pushed (s : State) (v : Word) : State :=
  (((s.setSp (s.sp - 1)).store (s.sp - 1) (highByte v)).setSp (s.sp - 1 - 1)).store (s.sp - 1 - 1)
    (lowByte v)

/-- The state after `Pop16()` and the word it returns, where both addresses have a meaning. -/
def State.popped (s : State) : State :=
  (((s.afterLoad s.sp).setSp (s.sp + 1)).afterLoad (s.sp + 1)).setSp (s.sp + 1 + 1)
def State.poppedWord (s : State) : Word :=
  wordOf (((s.afterLoad s.sp).setSp (s.sp + 1)).loadByte (s.sp + 1)) (s.loadByte s.sp)

theorem push16_next_iff {v : Word} : push16 v s = .next t ↔
    (s.reaches (s.sp - 1) = true ∧ s.reaches (s.sp - 1 - 1) = true) ∧ t = s.pushed v := by
  simp only [push16, andThen_eq_next, memWrite_next_iff, State.setSp_sp]
  constructor
  · rintro ⟨_, ⟨h, rfl⟩, h', e⟩
    simp only [State.store_sp, State.setSp_sp] at h' e
    exact ⟨⟨by simpa using h, by simpa using h'⟩, e⟩
  · rintro ⟨⟨h, h'⟩, e⟩
    refine ⟨_, ⟨by simpa using h, rfl⟩, ?_, ?_⟩
    · simpa using h'
    · simpa only [State.pushed, State.store_sp, State.setSp_sp] using e

theorem pop16_next_iff {p : Word × State} : pop16 s = .next p ↔
    (s.reaches s.sp = true ∧ s.reaches (s.sp + 1) = true) ∧ p = (s.poppedWord, s.popped) := by
  constructor
  · intro h
    have hr : s.reaches s.sp = true ∧ s.reaches (s.sp + 1) = true := by
      simp only [pop16, andThen_eq_next, memRead_next_iff] at h
      obtain ⟨_, ⟨h, rfl⟩, _, ⟨h', rfl⟩, _⟩ := h
      exact ⟨h, by simpa using h'⟩
    rw [pop16_eq s hr.1 hr.2] at h
    exact ⟨hr, next_inj.1 h⟩
  · rintro ⟨⟨h, h'⟩, rfl⟩
    rw [pop16_eq s h h']; rfl

theorem pushPair_next_iff {p : StackPair} : pushPair p s = .next t ↔
    s.stopsUnread (stackPairReads p ++ [.sp]) 1 t ∨
      s.firstUnwritten (stackPairReads p ++ [.sp]) = none ∧
      ((s.reaches (s.sp - 1) = true ∧ s.reaches (s.sp - 1 - 1) = true) ∧
        t = s.pushed (s.getStackPair p)) := by
  rw [pushPair, reading_next_iff]
  refine or_congr_right (and_congr_right fun _ => ?_)
  exact push16_next_iff

theorem popPair_next_iff {p : StackPair} : popPair p s = .next t ↔
    s.stopsUnread [.sp] 1 t ∨ s.firstUnwritten [.sp] = none ∧
      ((s.reaches s.sp = true ∧ s.reaches (s.sp + 1) = true) ∧
        t = s.popped.setStackPair p s.poppedWord) := by
  rw [popPair, reading_next_iff]
  refine or_congr_right (and_congr_right fun _ => ?_)
  simp only [andThen_eq_next, pop16_next_iff]
  constructor
  · rintro ⟨_, ⟨h, rfl⟩, h'⟩; exact ⟨h, next_inj.1 h'⟩
  · rintro ⟨h, e⟩; exact ⟨_, ⟨h, rfl⟩, next_inj.2 e⟩

/-! ## Arithmetic, logic, rotates and bits -/

theorem aluR8_next_iff {op : AluOp} {r : R8} : aluR8 op r s = .next t ↔
    s.stopsUnread (r8Reads r) 1 t ∨ s.firstUnwritten (r8Reads r) = none ∧ s.r8Reaches r = true ∧
      ((s.afterR8 r).stopsUnread (aluReads op) 1 t ∨
        s.firstUnwritten (aluReads op) = none ∧ t = (s.afterR8 r).alu op (s.r8Byte r)) := by
  rw [aluR8, reading_next_iff]
  refine or_congr_right (and_congr_right fun _ => ?_)
  simp only [andThen_eq_next, readR8_next_iff]
  constructor
  · rintro ⟨_, ⟨h, rfl⟩, h'⟩
    rw [reading_next_next_iff, State.firstUnwritten_afterR8] at h'
    exact ⟨h, h'⟩
  · rintro ⟨h, e⟩
    exact ⟨_, ⟨h, rfl⟩, by rwa [reading_next_next_iff, State.firstUnwritten_afterR8]⟩

/-- One read and one write of an operand, then a change of the state. -/
theorem readWrite_next_iff {r : R8} {f : Byte → Byte} {g : Byte → State → State} :
    (andThen (readR8 r s) fun p =>
      andThen (writeR8 r (f p.1) p.2) fun s2 => .next (g p.1 s2)) = .next t ↔
    s.r8Reaches r = true ∧ t = g (s.r8Byte r) ((s.afterR8 r).putR8 r (f (s.r8Byte r))) := by
  simp only [andThen_eq_next, readR8_next_iff, writeR8_next_iff]
  constructor
  · rintro ⟨_, ⟨h, rfl⟩, _, ⟨_, rfl⟩, h'⟩; exact ⟨h, next_inj.1 h'⟩
  · rintro ⟨h, e⟩; exact ⟨_, ⟨h, rfl⟩, _, ⟨by simpa using h, rfl⟩, next_inj.2 e⟩

theorem incR8_next_iff {r : R8} : incR8 r s = .next t ↔
    s.stopsUnread (r8Reads r) 1 t ∨ s.firstUnwritten (r8Reads r) = none ∧ s.r8Reaches r = true ∧
      t = ((s.afterR8 r).putR8 r (s.r8Byte r + 1)).writeFlags (incFlags (s.r8Byte r)) := by
  rw [incR8, reading_next_iff]
  exact or_congr_right (and_congr_right fun _ =>
    readWrite_next_iff (f := fun v => v + 1) (g := fun v s2 => s2.writeFlags (incFlags v)))

theorem decR8_next_iff {r : R8} : decR8 r s = .next t ↔
    s.stopsUnread (r8Reads r) 1 t ∨ s.firstUnwritten (r8Reads r) = none ∧ s.r8Reaches r = true ∧
      t = ((s.afterR8 r).putR8 r (s.r8Byte r - 1)).writeFlags (decFlags (s.r8Byte r)) := by
  rw [decR8, reading_next_iff]
  exact or_congr_right (and_congr_right fun _ =>
    readWrite_next_iff (f := fun v => v - 1) (g := fun v s2 => s2.writeFlags (decFlags v)))

theorem rotR8_next_iff {row : RotOp} {r : R8} : rotR8 row r s = .next t ↔
    s.stopsUnread (r8Reads r) 2 t ∨ s.firstUnwritten (r8Reads r) = none ∧ s.r8Reaches r = true ∧
      ((s.afterR8 r).stopsUnread (rotCarryReads (rotEffective s.config.cbRow1AsRlc row)) 2 t ∨
        s.firstUnwritten (rotCarryReads (rotEffective s.config.cbRow1AsRlc row)) = none ∧
        t = ((s.afterR8 r).putR8 r (rotValue (rotEffective s.config.cbRow1AsRlc row) (s.r8Byte r)
          s.flags.c)).setFlags
            (rotFlags (rotEffective s.config.cbRow1AsRlc row) (s.r8Byte r) s.flags.c)) := by
  rw [rotR8, reading_next_iff]
  refine or_congr_right (and_congr_right fun _ => ?_)
  simp only [andThen_eq_next, readR8_next_iff]
  constructor
  · rintro ⟨_, ⟨h, rfl⟩, h'⟩
    simp only [reading_next_iff, State.firstUnwritten_afterR8, andThen_eq_next,
      writeR8_next_iff] at h'
    refine ⟨h, h'.imp_right fun ⟨hn, _, ⟨_, rfl⟩, e⟩ => ⟨hn, next_inj.1 e⟩⟩
  · rintro ⟨h, h'⟩
    refine ⟨_, ⟨h, rfl⟩, ?_⟩
    simp only [reading_next_iff, State.firstUnwritten_afterR8, andThen_eq_next, writeR8_next_iff]
    exact h'.imp_right fun ⟨hn, e⟩ => ⟨hn, _, ⟨by simpa using h, rfl⟩, next_inj.2 e⟩

theorem bitR8_next_iff {b : Nat} {r : R8} : bitR8 b r s = .next t ↔
    s.stopsUnread (r8Reads r) 2 t ∨ s.firstUnwritten (r8Reads r) = none ∧ s.r8Reaches r = true ∧
      t = (s.afterR8 r).writeFlags (bitFlags (s.r8Byte r) b) := by
  rw [bitR8, reading_next_iff]
  refine or_congr_right (and_congr_right fun _ => ?_)
  simp only [andThen_eq_next, readR8_next_iff]
  constructor
  · rintro ⟨_, ⟨h, rfl⟩, h'⟩; exact ⟨h, next_inj.1 h'⟩
  · rintro ⟨h, e⟩; exact ⟨_, ⟨h, rfl⟩, next_inj.2 e⟩

/-- One read and one write of an operand, and nothing else. -/
theorem readThenWrite_next_iff {r : R8} {f : Byte → Byte} :
    (andThen (readR8 r s) fun p => writeR8 r (f p.1) p.2) = .next t ↔
    s.r8Reaches r = true ∧ t = (s.afterR8 r).putR8 r (f (s.r8Byte r)) := by
  simp only [andThen_eq_next, readR8_next_iff]
  constructor
  · rintro ⟨_, ⟨h, rfl⟩, h'⟩; exact ⟨h, (writeR8_next_iff.1 h').2⟩
  · rintro ⟨h, e⟩; exact ⟨_, ⟨h, rfl⟩, writeR8_next_iff.2 ⟨by simpa using h, e⟩⟩

theorem resR8_next_iff {b : Nat} {r : R8} : resR8 b r s = .next t ↔
    s.stopsUnread (r8Reads r) 2 t ∨ s.firstUnwritten (r8Reads r) = none ∧ s.r8Reaches r = true ∧
      t = (s.afterR8 r).putR8 r (s.r8Byte r &&& ~~~(1#8 <<< b)) := by
  rw [resR8, reading_next_iff]
  exact or_congr_right (and_congr_right fun _ =>
    readThenWrite_next_iff (f := fun v => v &&& ~~~(1#8 <<< b)))

theorem setR8_next_iff {b : Nat} {r : R8} : setR8 b r s = .next t ↔
    s.stopsUnread (r8Reads r) 2 t ∨ s.firstUnwritten (r8Reads r) = none ∧ s.r8Reaches r = true ∧
      t = (s.afterR8 r).putR8 r (s.r8Byte r ||| (1#8 <<< b)) := by
  rw [setR8, reading_next_iff]
  exact or_congr_right (and_congr_right fun _ =>
    readThenWrite_next_iff (f := fun v => v ||| (1#8 <<< b)))

/-- CCF: the flags it clears before it reads C stay cleared where that read faults. -/
theorem ccf_next_iff : ccf s = .next t ↔
    (s.writeFlags ⟨none, some false, some false, none⟩).stopsUnread [.flag .c] 1 t ∨
      s.firstUnwritten [.flag .c] = none ∧
        t = s.writeFlags ⟨none, some false, some false, some (!s.flags.c)⟩ := by
  rw [ccf, reading_next_next_iff, State.writeFlags_writeFlags]
  simp [State.firstUnwritten_eq_none_iff, State.writeFlags, Written.get, FlagWrites.marks,
    FlagWrites.over]

/-! ## Control transfer -/

theorem callFrom_next_iff {n : Nat} {x : Word} : callFrom n x s = .next t ↔
    s.stopsUnread [.sp] n t ∨ s.firstUnwritten [.sp] = none ∧
      (s.reaches (s.sp - 1) = true ∧ s.reaches (s.sp - 1 - 1) = true) ∧
      t = (s.pushed s.pc).setPc x := by
  rw [callFrom, reading_next_iff]
  refine or_congr_right (and_congr_right fun _ => ?_)
  simp only [andThen_eq_next, push16_next_iff]
  constructor
  · rintro ⟨_, ⟨h, rfl⟩, h'⟩; exact ⟨h, next_inj.1 h'⟩
  · rintro ⟨h, e⟩; exact ⟨_, ⟨h, rfl⟩, next_inj.2 e⟩

theorem ret_next_iff : ret s = .next t ↔
    s.stopsUnread [.sp] 1 t ∨ s.firstUnwritten [.sp] = none ∧
      ((s.reaches s.sp = true ∧ s.reaches (s.sp + 1) = true) ∧
        t = s.popped.setPc s.poppedWord) := by
  rw [ret, reading_next_iff]
  refine or_congr_right (and_congr_right fun _ => ?_)
  simp only [andThen_eq_next, pop16_next_iff]
  constructor
  · rintro ⟨_, ⟨h, rfl⟩, h'⟩; exact ⟨h, next_inj.1 h'⟩
  · rintro ⟨h, e⟩; exact ⟨_, ⟨h, rfl⟩, next_inj.2 e⟩

theorem reti_next_iff : reti s = .next t ↔
    s.stopsUnread [.sp] 1 t ∨ s.firstUnwritten [.sp] = none ∧
      ((s.reaches s.sp = true ∧ s.reaches (s.sp + 1) = true) ∧
        t = (s.popped.setPc s.poppedWord).setIme true) := by
  rw [reti, reading_next_iff]
  refine or_congr_right (and_congr_right fun _ => ?_)
  simp only [andThen_eq_next, pop16_next_iff]
  constructor
  · rintro ⟨_, ⟨h, rfl⟩, h'⟩; exact ⟨h, next_inj.1 h'⟩
  · rintro ⟨h, e⟩; exact ⟨_, ⟨h, rfl⟩, next_inj.2 e⟩

end Sys2Proof.Machine
end

