-- ==== Sys2Proof/Laws/PerInstr.lean ====
section
/-! SUPPORT. One fact about every instruction as syntax: its encoding has its opcode byte and as many
bytes after it as the opcode byte says (30_encoding.md R120, R121), the lone prefix byte apart. -/

namespace Sys2Proof.Laws.Length

/-- The length of the encoding is the one its opcode byte fixes. -/
def Statement (i : Instr) : Prop :=
  i.wf = true → i = .prefixCb ∨
    ∃ (op : Byte) (operand : List Byte), encode i = op :: operand ∧ operand.length = operandBytes op

theorem ldBcN16 (nn : Word) : Statement (.ldBcN16 nn) := fun _ => .inr ⟨_, _, rfl, rfl⟩
theorem ldBN8 (n : Byte) : Statement (.ldBN8 n) := fun _ => .inr ⟨_, _, rfl, rfl⟩
theorem ldAtA16Sp (addr : Word) : Statement (.ldAtA16Sp addr) := fun _ => .inr ⟨_, _, rfl, rfl⟩
theorem ldCN8 (n : Byte) : Statement (.ldCN8 n) := fun _ => .inr ⟨_, _, rfl, rfl⟩
theorem ldDeN16 (nn : Word) : Statement (.ldDeN16 nn) := fun _ => .inr ⟨_, _, rfl, rfl⟩
theorem ldDN8 (n : Byte) : Statement (.ldDN8 n) := fun _ => .inr ⟨_, _, rfl, rfl⟩
theorem jrE8 (e : Byte) : Statement (.jrE8 e) := fun _ => .inr ⟨_, _, rfl, rfl⟩
theorem ldEN8 (n : Byte) : Statement (.ldEN8 n) := fun _ => .inr ⟨_, _, rfl, rfl⟩
theorem jrNzE8 (e : Byte) : Statement (.jrNzE8 e) := fun _ => .inr ⟨_, _, rfl, rfl⟩
theorem ldHlN16 (nn : Word) : Statement (.ldHlN16 nn) := fun _ => .inr ⟨_, _, rfl, rfl⟩
theorem ldHN8 (n : Byte) : Statement (.ldHN8 n) := fun _ => .inr ⟨_, _, rfl, rfl⟩
theorem jrZE8 (e : Byte) : Statement (.jrZE8 e) := fun _ => .inr ⟨_, _, rfl, rfl⟩
theorem ldLN8 (n : Byte) : Statement (.ldLN8 n) := fun _ => .inr ⟨_, _, rfl, rfl⟩
theorem jrNcE8 (e : Byte) : Statement (.jrNcE8 e) := fun _ => .inr ⟨_, _, rfl, rfl⟩
theorem ldSpN16 (nn : Word) : Statement (.ldSpN16 nn) := fun _ => .inr ⟨_, _, rfl, rfl⟩
theorem ldAtHlN8 (n : Byte) : Statement (.ldAtHlN8 n) := fun _ => .inr ⟨_, _, rfl, rfl⟩
theorem jrCE8 (e : Byte) : Statement (.jrCE8 e) := fun _ => .inr ⟨_, _, rfl, rfl⟩
theorem ldAN8 (n : Byte) : Statement (.ldAN8 n) := fun _ => .inr ⟨_, _, rfl, rfl⟩
theorem jpNzA16 (addr : Word) : Statement (.jpNzA16 addr) := fun _ => .inr ⟨_, _, rfl, rfl⟩
theorem jpA16 (addr : Word) : Statement (.jpA16 addr) := fun _ => .inr ⟨_, _, rfl, rfl⟩
theorem callNzA16 (addr : Word) : Statement (.callNzA16 addr) := fun _ => .inr ⟨_, _, rfl, rfl⟩
theorem addAN8 (n : Byte) : Statement (.addAN8 n) := fun _ => .inr ⟨_, _, rfl, rfl⟩
theorem jpZA16 (addr : Word) : Statement (.jpZA16 addr) := fun _ => .inr ⟨_, _, rfl, rfl⟩
theorem callZA16 (addr : Word) : Statement (.callZA16 addr) := fun _ => .inr ⟨_, _, rfl, rfl⟩
theorem callA16 (addr : Word) : Statement (.callA16 addr) := fun _ => .inr ⟨_, _, rfl, rfl⟩
theorem adcAN8 (n : Byte) : Statement (.adcAN8 n) := fun _ => .inr ⟨_, _, rfl, rfl⟩
theorem jpNcA16 (addr : Word) : Statement (.jpNcA16 addr) := fun _ => .inr ⟨_, _, rfl, rfl⟩
theorem illegal (op : Byte) : Statement (.illegal op) := by
  intro h
  simp only [Instr.wf, illegalOpcodes, List.contains_iff_mem, List.mem_cons, List.not_mem_nil,
    or_false] at h
  rcases h with rfl | rfl | rfl | rfl | rfl | rfl | rfl | rfl | rfl | rfl | rfl <;> exact .inr ⟨_, _, rfl, rfl⟩
theorem callNcA16 (addr : Word) : Statement (.callNcA16 addr) := fun _ => .inr ⟨_, _, rfl, rfl⟩
theorem subAN8 (n : Byte) : Statement (.subAN8 n) := fun _ => .inr ⟨_, _, rfl, rfl⟩
theorem jpCA16 (addr : Word) : Statement (.jpCA16 addr) := fun _ => .inr ⟨_, _, rfl, rfl⟩
theorem callCA16 (addr : Word) : Statement (.callCA16 addr) := fun _ => .inr ⟨_, _, rfl, rfl⟩
theorem sbcAN8 (n : Byte) : Statement (.sbcAN8 n) := fun _ => .inr ⟨_, _, rfl, rfl⟩
theorem ldhAtA8A (off : Byte) : Statement (.ldhAtA8A off) := fun _ => .inr ⟨_, _, rfl, rfl⟩
theorem andAN8 (n : Byte) : Statement (.andAN8 n) := fun _ => .inr ⟨_, _, rfl, rfl⟩
theorem addSpE8 (e : Byte) : Statement (.addSpE8 e) := fun _ => .inr ⟨_, _, rfl, rfl⟩
theorem ldAtA16A (addr : Word) : Statement (.ldAtA16A addr) := fun _ => .inr ⟨_, _, rfl, rfl⟩
theorem xorAN8 (n : Byte) : Statement (.xorAN8 n) := fun _ => .inr ⟨_, _, rfl, rfl⟩
theorem ldhAAtA8 (off : Byte) : Statement (.ldhAAtA8 off) := fun _ => .inr ⟨_, _, rfl, rfl⟩
theorem orAN8 (n : Byte) : Statement (.orAN8 n) := fun _ => .inr ⟨_, _, rfl, rfl⟩
theorem ldHlSpE8 (e : Byte) : Statement (.ldHlSpE8 e) := fun _ => .inr ⟨_, _, rfl, rfl⟩
theorem ldAAtA16 (addr : Word) : Statement (.ldAAtA16 addr) := fun _ => .inr ⟨_, _, rfl, rfl⟩
theorem cpAN8 (n : Byte) : Statement (.cpAN8 n) := fun _ => .inr ⟨_, _, rfl, rfl⟩
theorem nop : Statement .nop := fun _ => .inr ⟨_, _, rfl, rfl⟩
theorem ldAtBcA : Statement .ldAtBcA := fun _ => .inr ⟨_, _, rfl, rfl⟩
theorem incBc : Statement .incBc := fun _ => .inr ⟨_, _, rfl, rfl⟩
theorem incB : Statement .incB := fun _ => .inr ⟨_, _, rfl, rfl⟩
theorem decB : Statement .decB := fun _ => .inr ⟨_, _, rfl, rfl⟩
theorem rlca : Statement .rlca := fun _ => .inr ⟨_, _, rfl, rfl⟩
theorem addHlBc : Statement .addHlBc := fun _ => .inr ⟨_, _, rfl, rfl⟩
theorem ldAAtBc : Statement .ldAAtBc := fun _ => .inr ⟨_, _, rfl, rfl⟩
theorem decBc : Statement .decBc := fun _ => .inr ⟨_, _, rfl, rfl⟩
theorem incC : Statement .incC := fun _ => .inr ⟨_, _, rfl, rfl⟩
theorem decC : Statement .decC := fun _ => .inr ⟨_, _, rfl, rfl⟩
theorem rrca : Statement .rrca := fun _ => .inr ⟨_, _, rfl, rfl⟩
theorem stop : Statement .stop := fun _ => .inr ⟨_, _, rfl, rfl⟩
theorem ldAtDeA : Statement .ldAtDeA := fun _ => .inr ⟨_, _, rfl, rfl⟩
theorem incDe : Statement .incDe := fun _ => .inr ⟨_, _, rfl, rfl⟩
theorem incD : Statement .incD := fun _ => .inr ⟨_, _, rfl, rfl⟩
theorem decD : Statement .decD := fun _ => .inr ⟨_, _, rfl, rfl⟩
theorem rla : Statement .rla := fun _ => .inr ⟨_, _, rfl, rfl⟩
theorem addHlDe : Statement .addHlDe := fun _ => .inr ⟨_, _, rfl, rfl⟩
theorem ldAAtDe : Statement .ldAAtDe := fun _ => .inr ⟨_, _, rfl, rfl⟩
theorem decDe : Statement .decDe := fun _ => .inr ⟨_, _, rfl, rfl⟩
theorem incE : Statement .incE := fun _ => .inr ⟨_, _, rfl, rfl⟩
theorem decE : Statement .decE := fun _ => .inr ⟨_, _, rfl, rfl⟩
theorem rra : Statement .rra := fun _ => .inr ⟨_, _, rfl, rfl⟩
theorem ldAtHlIncA : Statement .ldAtHlIncA := fun _ => .inr ⟨_, _, rfl, rfl⟩
theorem incHl : Statement .incHl := fun _ => .inr ⟨_, _, rfl, rfl⟩
theorem incH : Statement .incH := fun _ => .inr ⟨_, _, rfl, rfl⟩
theorem decH : Statement .decH := fun _ => .inr ⟨_, _, rfl, rfl⟩
theorem daa : Statement .daa := fun _ => .inr ⟨_, _, rfl, rfl⟩
theorem addHlHl : Statement .addHlHl := fun _ => .inr ⟨_, _, rfl, rfl⟩
theorem ldAAtHlInc : Statement .ldAAtHlInc := fun _ => .inr ⟨_, _, rfl, rfl⟩
theorem decHl : Statement .decHl := fun _ => .inr ⟨_, _, rfl, rfl⟩
theorem incL : Statement .incL := fun _ => .inr ⟨_, _, rfl, rfl⟩
theorem decL : Statement .decL := fun _ => .inr ⟨_, _, rfl, rfl⟩
theorem cpl : Statement .cpl := fun _ => .inr ⟨_, _, rfl, rfl⟩
theorem ldAtHlDecA : Statement .ldAtHlDecA := fun _ => .inr ⟨_, _, rfl, rfl⟩
theorem incSp : Statement .incSp := fun _ => .inr ⟨_, _, rfl, rfl⟩
theorem incAtHl : Statement .incAtHl := fun _ => .inr ⟨_, _, rfl, rfl⟩
theorem decAtHl : Statement .decAtHl := fun _ => .inr ⟨_, _, rfl, rfl⟩
theorem scf : Statement .scf := fun _ => .inr ⟨_, _, rfl, rfl⟩
theorem addHlSp : Statement .addHlSp := fun _ => .inr ⟨_, _, rfl, rfl⟩
theorem ldAAtHlDec : Statement .ldAAtHlDec := fun _ => .inr ⟨_, _, rfl, rfl⟩
theorem decSp : Statement .decSp := fun _ => .inr ⟨_, _, rfl, rfl⟩
theorem incA : Statement .incA := fun _ => .inr ⟨_, _, rfl, rfl⟩
theorem decA : Statement .decA := fun _ => .inr ⟨_, _, rfl, rfl⟩
theorem ccf : Statement .ccf := fun _ => .inr ⟨_, _, rfl, rfl⟩
theorem ldBB : Statement .ldBB := fun _ => .inr ⟨_, _, rfl, rfl⟩
theorem ldBC : Statement .ldBC := fun _ => .inr ⟨_, _, rfl, rfl⟩
theorem ldBD : Statement .ldBD := fun _ => .inr ⟨_, _, rfl, rfl⟩
theorem ldBE : Statement .ldBE := fun _ => .inr ⟨_, _, rfl, rfl⟩
theorem ldBH : Statement .ldBH := fun _ => .inr ⟨_, _, rfl, rfl⟩
theorem ldBL : Statement .ldBL := fun _ => .inr ⟨_, _, rfl, rfl⟩
theorem ldBAtHl : Statement .ldBAtHl := fun _ => .inr ⟨_, _, rfl, rfl⟩
theorem ldBA : Statement .ldBA := fun _ => .inr ⟨_, _, rfl, rfl⟩
theorem ldCB : Statement .ldCB := fun _ => .inr ⟨_, _, rfl, rfl⟩
theorem ldCC : Statement .ldCC := fun _ => .inr ⟨_, _, rfl, rfl⟩
theorem ldCD : Statement .ldCD := fun _ => .inr ⟨_, _, rfl, rfl⟩
theorem ldCE : Statement .ldCE := fun _ => .inr ⟨_, _, rfl, rfl⟩
theorem ldCH : Statement .ldCH := fun _ => .inr ⟨_, _, rfl, rfl⟩
theorem ldCL : Statement .ldCL := fun _ => .inr ⟨_, _, rfl, rfl⟩
theorem ldCAtHl : Statement .ldCAtHl := fun _ => .inr ⟨_, _, rfl, rfl⟩
theorem ldCA : Statement .ldCA := fun _ => .inr ⟨_, _, rfl, rfl⟩
theorem ldDB : Statement .ldDB := fun _ => .inr ⟨_, _, rfl, rfl⟩
theorem ldDC : Statement .ldDC := fun _ => .inr ⟨_, _, rfl, rfl⟩
theorem ldDD : Statement .ldDD := fun _ => .inr ⟨_, _, rfl, rfl⟩
theorem ldDE : Statement .ldDE := fun _ => .inr ⟨_, _, rfl, rfl⟩
theorem ldDH : Statement .ldDH := fun _ => .inr ⟨_, _, rfl, rfl⟩
theorem ldDL : Statement .ldDL := fun _ => .inr ⟨_, _, rfl, rfl⟩
theorem ldDAtHl : Statement .ldDAtHl := fun _ => .inr ⟨_, _, rfl, rfl⟩
theorem ldDA : Statement .ldDA := fun _ => .inr ⟨_, _, rfl, rfl⟩
theorem ldEB : Statement .ldEB := fun _ => .inr ⟨_, _, rfl, rfl⟩
theorem ldEC : Statement .ldEC := fun _ => .inr ⟨_, _, rfl, rfl⟩
theorem ldED : Statement .ldED := fun _ => .inr ⟨_, _, rfl, rfl⟩
theorem ldEE : Statement .ldEE := fun _ => .inr ⟨_, _, rfl, rfl⟩
theorem ldEH : Statement .ldEH := fun _ => .inr ⟨_, _, rfl, rfl⟩
theorem ldEL : Statement .ldEL := fun _ => .inr ⟨_, _, rfl, rfl⟩
theorem ldEAtHl : Statement .ldEAtHl := fun _ => .inr ⟨_, _, rfl, rfl⟩
theorem ldEA : Statement .ldEA := fun _ => .inr ⟨_, _, rfl, rfl⟩
theorem ldHB : Statement .ldHB := fun _ => .inr ⟨_, _, rfl, rfl⟩
theorem ldHC : Statement .ldHC := fun _ => .inr ⟨_, _, rfl, rfl⟩
theorem ldHD : Statement .ldHD := fun _ => .inr ⟨_, _, rfl, rfl⟩
theorem ldHE : Statement .ldHE := fun _ => .inr ⟨_, _, rfl, rfl⟩
theorem ldHH : Statement .ldHH := fun _ => .inr ⟨_, _, rfl, rfl⟩
theorem ldHL : Statement .ldHL := fun _ => .inr ⟨_, _, rfl, rfl⟩
theorem ldHAtHl : Statement .ldHAtHl := fun _ => .inr ⟨_, _, rfl, rfl⟩
theorem ldHA : Statement .ldHA := fun _ => .inr ⟨_, _, rfl, rfl⟩
theorem ldLB : Statement .ldLB := fun _ => .inr ⟨_, _, rfl, rfl⟩
theorem ldLC : Statement .ldLC := fun _ => .inr ⟨_, _, rfl, rfl⟩
theorem ldLD : Statement .ldLD := fun _ => .inr ⟨_, _, rfl, rfl⟩
theorem ldLE : Statement .ldLE := fun _ => .inr ⟨_, _, rfl, rfl⟩
theorem ldLH : Statement .ldLH := fun _ => .inr ⟨_, _, rfl, rfl⟩
theorem ldLL : Statement .ldLL := fun _ => .inr ⟨_, _, rfl, rfl⟩
theorem ldLAtHl : Statement .ldLAtHl := fun _ => .inr ⟨_, _, rfl, rfl⟩
theorem ldLA : Statement .ldLA := fun _ => .inr ⟨_, _, rfl, rfl⟩
theorem ldAtHlB : Statement .ldAtHlB := fun _ => .inr ⟨_, _, rfl, rfl⟩
theorem ldAtHlC : Statement .ldAtHlC := fun _ => .inr ⟨_, _, rfl, rfl⟩
theorem ldAtHlD : Statement .ldAtHlD := fun _ => .inr ⟨_, _, rfl, rfl⟩
theorem ldAtHlE : Statement .ldAtHlE := fun _ => .inr ⟨_, _, rfl, rfl⟩
theorem ldAtHlH : Statement .ldAtHlH := fun _ => .inr ⟨_, _, rfl, rfl⟩
theorem ldAtHlL : Statement .ldAtHlL := fun _ => .inr ⟨_, _, rfl, rfl⟩
theorem halt : Statement .halt := fun _ => .inr ⟨_, _, rfl, rfl⟩
theorem ldAtHlA : Statement .ldAtHlA := fun _ => .inr ⟨_, _, rfl, rfl⟩
theorem ldAB : Statement .ldAB := fun _ => .inr ⟨_, _, rfl, rfl⟩
theorem ldAC : Statement .ldAC := fun _ => .inr ⟨_, _, rfl, rfl⟩
theorem ldAD : Statement .ldAD := fun _ => .inr ⟨_, _, rfl, rfl⟩
theorem ldAE : Statement .ldAE := fun _ => .inr ⟨_, _, rfl, rfl⟩
theorem ldAH : Statement .ldAH := fun _ => .inr ⟨_, _, rfl, rfl⟩
theorem ldAL : Statement .ldAL := fun _ => .inr ⟨_, _, rfl, rfl⟩
theorem ldAAtHl : Statement .ldAAtHl := fun _ => .inr ⟨_, _, rfl, rfl⟩
theorem ldAA : Statement .ldAA := fun _ => .inr ⟨_, _, rfl, rfl⟩
theorem addAB : Statement .addAB := fun _ => .inr ⟨_, _, rfl, rfl⟩
theorem addAC : Statement .addAC := fun _ => .inr ⟨_, _, rfl, rfl⟩
theorem addAD : Statement .addAD := fun _ => .inr ⟨_, _, rfl, rfl⟩
theorem addAE : Statement .addAE := fun _ => .inr ⟨_, _, rfl, rfl⟩
theorem addAH : Statement .addAH := fun _ => .inr ⟨_, _, rfl, rfl⟩
theorem addAL : Statement .addAL := fun _ => .inr ⟨_, _, rfl, rfl⟩
theorem addAAtHl : Statement .addAAtHl := fun _ => .inr ⟨_, _, rfl, rfl⟩
theorem addAA : Statement .addAA := fun _ => .inr ⟨_, _, rfl, rfl⟩
theorem adcAB : Statement .adcAB := fun _ => .inr ⟨_, _, rfl, rfl⟩
theorem adcAC : Statement .adcAC := fun _ => .inr ⟨_, _, rfl, rfl⟩
theorem adcAD : Statement .adcAD := fun _ => .inr ⟨_, _, rfl, rfl⟩
theorem adcAE : Statement .adcAE := fun _ => .inr ⟨_, _, rfl, rfl⟩
theorem adcAH : Statement .adcAH := fun _ => .inr ⟨_, _, rfl, rfl⟩
theorem adcAL : Statement .adcAL := fun _ => .inr ⟨_, _, rfl, rfl⟩
theorem adcAAtHl : Statement .adcAAtHl := fun _ => .inr ⟨_, _, rfl, rfl⟩
theorem adcAA : Statement .adcAA := fun _ => .inr ⟨_, _, rfl, rfl⟩
theorem subAB : Statement .subAB := fun _ => .inr ⟨_, _, rfl, rfl⟩
theorem subAC : Statement .subAC := fun _ => .inr ⟨_, _, rfl, rfl⟩
theorem subAD : Statement .subAD := fun _ => .inr ⟨_, _, rfl, rfl⟩
theorem subAE : Statement .subAE := fun _ => .inr ⟨_, _, rfl, rfl⟩
theorem subAH : Statement .subAH := fun _ => .inr ⟨_, _, rfl, rfl⟩
theorem subAL : Statement .subAL := fun _ => .inr ⟨_, _, rfl, rfl⟩
theorem subAAtHl : Statement .subAAtHl := fun _ => .inr ⟨_, _, rfl, rfl⟩
theorem subAA : Statement .subAA := fun _ => .inr ⟨_, _, rfl, rfl⟩
theorem sbcAB : Statement .sbcAB := fun _ => .inr ⟨_, _, rfl, rfl⟩
theorem sbcAC : Statement .sbcAC := fun _ => .inr ⟨_, _, rfl, rfl⟩
theorem sbcAD : Statement .sbcAD := fun _ => .inr ⟨_, _, rfl, rfl⟩
theorem sbcAE : Statement .sbcAE := fun _ => .inr ⟨_, _, rfl, rfl⟩
theorem sbcAH : Statement .sbcAH := fun _ => .inr ⟨_, _, rfl, rfl⟩
theorem sbcAL : Statement .sbcAL := fun _ => .inr ⟨_, _, rfl, rfl⟩
theorem sbcAAtHl : Statement .sbcAAtHl := fun _ => .inr ⟨_, _, rfl, rfl⟩
theorem sbcAA : Statement .sbcAA := fun _ => .inr ⟨_, _, rfl, rfl⟩
theorem andAB : Statement .andAB := fun _ => .inr ⟨_, _, rfl, rfl⟩
theorem andAC : Statement .andAC := fun _ => .inr ⟨_, _, rfl, rfl⟩
theorem andAD : Statement .andAD := fun _ => .inr ⟨_, _, rfl, rfl⟩
theorem andAE : Statement .andAE := fun _ => .inr ⟨_, _, rfl, rfl⟩
theorem andAH : Statement .andAH := fun _ => .inr ⟨_, _, rfl, rfl⟩
theorem andAL : Statement .andAL := fun _ => .inr ⟨_, _, rfl, rfl⟩
theorem andAAtHl : Statement .andAAtHl := fun _ => .inr ⟨_, _, rfl, rfl⟩
theorem andAA : Statement .andAA := fun _ => .inr ⟨_, _, rfl, rfl⟩
theorem xorAB : Statement .xorAB := fun _ => .inr ⟨_, _, rfl, rfl⟩
theorem xorAC : Statement .xorAC := fun _ => .inr ⟨_, _, rfl, rfl⟩
theorem xorAD : Statement .xorAD := fun _ => .inr ⟨_, _, rfl, rfl⟩
theorem xorAE : Statement .xorAE := fun _ => .inr ⟨_, _, rfl, rfl⟩
theorem xorAH : Statement .xorAH := fun _ => .inr ⟨_, _, rfl, rfl⟩
theorem xorAL : Statement .xorAL := fun _ => .inr ⟨_, _, rfl, rfl⟩
theorem xorAAtHl : Statement .xorAAtHl := fun _ => .inr ⟨_, _, rfl, rfl⟩
theorem xorAA : Statement .xorAA := fun _ => .inr ⟨_, _, rfl, rfl⟩
theorem orAB : Statement .orAB := fun _ => .inr ⟨_, _, rfl, rfl⟩
theorem orAC : Statement .orAC := fun _ => .inr ⟨_, _, rfl, rfl⟩
theorem orAD : Statement .orAD := fun _ => .inr ⟨_, _, rfl, rfl⟩
theorem orAE : Statement .orAE := fun _ => .inr ⟨_, _, rfl, rfl⟩
theorem orAH : Statement .orAH := fun _ => .inr ⟨_, _, rfl, rfl⟩
theorem orAL : Statement .orAL := fun _ => .inr ⟨_, _, rfl, rfl⟩
theorem orAAtHl : Statement .orAAtHl := fun _ => .inr ⟨_, _, rfl, rfl⟩
theorem orAA : Statement .orAA := fun _ => .inr ⟨_, _, rfl, rfl⟩
theorem cpAB : Statement .cpAB := fun _ => .inr ⟨_, _, rfl, rfl⟩
theorem cpAC : Statement .cpAC := fun _ => .inr ⟨_, _, rfl, rfl⟩
theorem cpAD : Statement .cpAD := fun _ => .inr ⟨_, _, rfl, rfl⟩
theorem cpAE : Statement .cpAE := fun _ => .inr ⟨_, _, rfl, rfl⟩
theorem cpAH : Statement .cpAH := fun _ => .inr ⟨_, _, rfl, rfl⟩
theorem cpAL : Statement .cpAL := fun _ => .inr ⟨_, _, rfl, rfl⟩
theorem cpAAtHl : Statement .cpAAtHl := fun _ => .inr ⟨_, _, rfl, rfl⟩
theorem cpAA : Statement .cpAA := fun _ => .inr ⟨_, _, rfl, rfl⟩
theorem retNz : Statement .retNz := fun _ => .inr ⟨_, _, rfl, rfl⟩
theorem popBc : Statement .popBc := fun _ => .inr ⟨_, _, rfl, rfl⟩
theorem pushBc : Statement .pushBc := fun _ => .inr ⟨_, _, rfl, rfl⟩
theorem rst00 : Statement .rst00 := fun _ => .inr ⟨_, _, rfl, rfl⟩
theorem retZ : Statement .retZ := fun _ => .inr ⟨_, _, rfl, rfl⟩
theorem ret : Statement .ret := fun _ => .inr ⟨_, _, rfl, rfl⟩
theorem prefixCb : Statement .prefixCb := fun _ => .inl rfl
theorem rst08 : Statement .rst08 := fun _ => .inr ⟨_, _, rfl, rfl⟩
theorem retNc : Statement .retNc := fun _ => .inr ⟨_, _, rfl, rfl⟩
theorem popDe : Statement .popDe := fun _ => .inr ⟨_, _, rfl, rfl⟩
theorem pushDe : Statement .pushDe := fun _ => .inr ⟨_, _, rfl, rfl⟩
theorem rst10 : Statement .rst10 := fun _ => .inr ⟨_, _, rfl, rfl⟩
theorem retC : Statement .retC := fun _ => .inr ⟨_, _, rfl, rfl⟩
theorem reti : Statement .reti := fun _ => .inr ⟨_, _, rfl, rfl⟩
theorem rst18 : Statement .rst18 := fun _ => .inr ⟨_, _, rfl, rfl⟩
theorem popHl : Statement .popHl := fun _ => .inr ⟨_, _, rfl, rfl⟩
theorem ldAtCA : Statement .ldAtCA := fun _ => .inr ⟨_, _, rfl, rfl⟩
theorem pushHl : Statement .pushHl := fun _ => .inr ⟨_, _, rfl, rfl⟩
theorem rst20 : Statement .rst20 := fun _ => .inr ⟨_, _, rfl, rfl⟩
theorem jpHl : Statement .jpHl := fun _ => .inr ⟨_, _, rfl, rfl⟩
theorem rst28 : Statement .rst28 := fun _ => .inr ⟨_, _, rfl, rfl⟩
theorem popAf : Statement .popAf := fun _ => .inr ⟨_, _, rfl, rfl⟩
theorem ldAAtC : Statement .ldAAtC := fun _ => .inr ⟨_, _, rfl, rfl⟩
theorem di : Statement .di := fun _ => .inr ⟨_, _, rfl, rfl⟩
theorem pushAf : Statement .pushAf := fun _ => .inr ⟨_, _, rfl, rfl⟩
theorem rst30 : Statement .rst30 := fun _ => .inr ⟨_, _, rfl, rfl⟩
theorem ldSpHl : Statement .ldSpHl := fun _ => .inr ⟨_, _, rfl, rfl⟩
theorem ei : Statement .ei := fun _ => .inr ⟨_, _, rfl, rfl⟩
theorem rst38 : Statement .rst38 := fun _ => .inr ⟨_, _, rfl, rfl⟩
theorem rlcB : Statement .rlcB := fun _ => .inr ⟨_, _, rfl, rfl⟩
theorem rlcC : Statement .rlcC := fun _ => .inr ⟨_, _, rfl, rfl⟩
theorem rlcD : Statement .rlcD := fun _ => .inr ⟨_, _, rfl, rfl⟩
theorem rlcE : Statement .rlcE := fun _ => .inr ⟨_, _, rfl, rfl⟩
theorem rlcH : Statement .rlcH := fun _ => .inr ⟨_, _, rfl, rfl⟩
theorem rlcL : Statement .rlcL := fun _ => .inr ⟨_, _, rfl, rfl⟩
theorem rlcAtHl : Statement .rlcAtHl := fun _ => .inr ⟨_, _, rfl, rfl⟩
theorem rlcA : Statement .rlcA := fun _ => .inr ⟨_, _, rfl, rfl⟩
theorem rrcB : Statement .rrcB := fun _ => .inr ⟨_, _, rfl, rfl⟩
theorem rrcC : Statement .rrcC := fun _ => .inr ⟨_, _, rfl, rfl⟩
theorem rrcD : Statement .rrcD := fun _ => .inr ⟨_, _, rfl, rfl⟩
theorem rrcE : Statement .rrcE := fun _ => .inr ⟨_, _, rfl, rfl⟩
theorem rrcH : Statement .rrcH := fun _ => .inr ⟨_, _, rfl, rfl⟩
theorem rrcL : Statement .rrcL := fun _ => .inr ⟨_, _, rfl, rfl⟩
theorem rrcAtHl : Statement .rrcAtHl := fun _ => .inr ⟨_, _, rfl, rfl⟩
theorem rrcA : Statement .rrcA := fun _ => .inr ⟨_, _, rfl, rfl⟩
theorem rlB : Statement .rlB := fun _ => .inr ⟨_, _, rfl, rfl⟩
theorem rlC : Statement .rlC := fun _ => .inr ⟨_, _, rfl, rfl⟩
theorem rlD : Statement .rlD := fun _ => .inr ⟨_, _, rfl, rfl⟩
theorem rlE : Statement .rlE := fun _ => .inr ⟨_, _, rfl, rfl⟩
theorem rlH : Statement .rlH := fun _ => .inr ⟨_, _, rfl, rfl⟩
theorem rlL : Statement .rlL := fun _ => .inr ⟨_, _, rfl, rfl⟩
theorem rlAtHl : Statement .rlAtHl := fun _ => .inr ⟨_, _, rfl, rfl⟩
theorem rlA : Statement .rlA := fun _ => .inr ⟨_, _, rfl, rfl⟩
theorem rrB : Statement .rrB := fun _ => .inr ⟨_, _, rfl, rfl⟩
theorem rrC : Statement .rrC := fun _ => .inr ⟨_, _, rfl, rfl⟩
theorem rrD : Statement .rrD := fun _ => .inr ⟨_, _, rfl, rfl⟩
theorem rrE : Statement .rrE := fun _ => .inr ⟨_, _, rfl, rfl⟩
theorem rrH : Statement .rrH := fun _ => .inr ⟨_, _, rfl, rfl⟩
theorem rrL : Statement .rrL := fun _ => .inr ⟨_, _, rfl, rfl⟩
theorem rrAtHl : Statement .rrAtHl := fun _ => .inr ⟨_, _, rfl, rfl⟩
theorem rrA : Statement .rrA := fun _ => .inr ⟨_, _, rfl, rfl⟩
theorem slaB : Statement .slaB := fun _ => .inr ⟨_, _, rfl, rfl⟩
theorem slaC : Statement .slaC := fun _ => .inr ⟨_, _, rfl, rfl⟩
theorem slaD : Statement .slaD := fun _ => .inr ⟨_, _, rfl, rfl⟩
theorem slaE : Statement .slaE := fun _ => .inr ⟨_, _, rfl, rfl⟩
theorem slaH : Statement .slaH := fun _ => .inr ⟨_, _, rfl, rfl⟩
theorem slaL : Statement .slaL := fun _ => .inr ⟨_, _, rfl, rfl⟩
theorem slaAtHl : Statement .slaAtHl := fun _ => .inr ⟨_, _, rfl, rfl⟩
theorem slaA : Statement .slaA := fun _ => .inr ⟨_, _, rfl, rfl⟩
theorem sraB : Statement .sraB := fun _ => .inr ⟨_, _, rfl, rfl⟩
theorem sraC : Statement .sraC := fun _ => .inr ⟨_, _, rfl, rfl⟩
theorem sraD : Statement .sraD := fun _ => .inr ⟨_, _, rfl, rfl⟩
theorem sraE : Statement .sraE := fun _ => .inr ⟨_, _, rfl, rfl⟩
theorem sraH : Statement .sraH := fun _ => .inr ⟨_, _, rfl, rfl⟩
theorem sraL : Statement .sraL := fun _ => .inr ⟨_, _, rfl, rfl⟩
theorem sraAtHl : Statement .sraAtHl := fun _ => .inr ⟨_, _, rfl, rfl⟩
theorem sraA : Statement .sraA := fun _ => .inr ⟨_, _, rfl, rfl⟩
theorem swapB : Statement .swapB := fun _ => .inr ⟨_, _, rfl, rfl⟩
theorem swapC : Statement .swapC := fun _ => .inr ⟨_, _, rfl, rfl⟩
theorem swapD : Statement .swapD := fun _ => .inr ⟨_, _, rfl, rfl⟩
theorem swapE : Statement .swapE := fun _ => .inr ⟨_, _, rfl, rfl⟩
theorem swapH : Statement .swapH := fun _ => .inr ⟨_, _, rfl, rfl⟩
theorem swapL : Statement .swapL := fun _ => .inr ⟨_, _, rfl, rfl⟩
theorem swapAtHl : Statement .swapAtHl := fun _ => .inr ⟨_, _, rfl, rfl⟩
theorem swapA : Statement .swapA := fun _ => .inr ⟨_, _, rfl, rfl⟩
theorem srlB : Statement .srlB := fun _ => .inr ⟨_, _, rfl, rfl⟩
theorem srlC : Statement .srlC := fun _ => .inr ⟨_, _, rfl, rfl⟩
theorem srlD : Statement .srlD := fun _ => .inr ⟨_, _, rfl, rfl⟩
theorem srlE : Statement .srlE := fun _ => .inr ⟨_, _, rfl, rfl⟩
theorem srlH : Statement .srlH := fun _ => .inr ⟨_, _, rfl, rfl⟩
theorem srlL : Statement .srlL := fun _ => .inr ⟨_, _, rfl, rfl⟩
theorem srlAtHl : Statement .srlAtHl := fun _ => .inr ⟨_, _, rfl, rfl⟩
theorem srlA : Statement .srlA := fun _ => .inr ⟨_, _, rfl, rfl⟩
theorem bit0B : Statement .bit0B := fun _ => .inr ⟨_, _, rfl, rfl⟩
theorem bit0C : Statement .bit0C := fun _ => .inr ⟨_, _, rfl, rfl⟩
theorem bit0D : Statement .bit0D := fun _ => .inr ⟨_, _, rfl, rfl⟩
theorem bit0E : Statement .bit0E := fun _ => .inr ⟨_, _, rfl, rfl⟩
theorem bit0H : Statement .bit0H := fun _ => .inr ⟨_, _, rfl, rfl⟩
theorem bit0L : Statement .bit0L := fun _ => .inr ⟨_, _, rfl, rfl⟩
theorem bit0AtHl : Statement .bit0AtHl := fun _ => .inr ⟨_, _, rfl, rfl⟩
theorem bit0A : Statement .bit0A := fun _ => .inr ⟨_, _, rfl, rfl⟩
theorem bit1B : Statement .bit1B := fun _ => .inr ⟨_, _, rfl, rfl⟩
theorem bit1C : Statement .bit1C := fun _ => .inr ⟨_, _, rfl, rfl⟩
theorem bit1D : Statement .bit1D := fun _ => .inr ⟨_, _, rfl, rfl⟩
theorem bit1E : Statement .bit1E := fun _ => .inr ⟨_, _, rfl, rfl⟩
theorem bit1H : Statement .bit1H := fun _ => .inr ⟨_, _, rfl, rfl⟩
theorem bit1L : Statement .bit1L := fun _ => .inr ⟨_, _, rfl, rfl⟩
theorem bit1AtHl : Statement .bit1AtHl := fun _ => .inr ⟨_, _, rfl, rfl⟩
theorem bit1A : Statement .bit1A := fun _ => .inr ⟨_, _, rfl, rfl⟩
theorem bit2B : Statement .bit2B := fun _ => .inr ⟨_, _, rfl, rfl⟩
theorem bit2C : Statement .bit2C := fun _ => .inr ⟨_, _, rfl, rfl⟩
theorem bit2D : Statement .bit2D := fun _ => .inr ⟨_, _, rfl, rfl⟩
theorem bit2E : Statement .bit2E := fun _ => .inr ⟨_, _, rfl, rfl⟩
theorem bit2H : Statement .bit2H := fun _ => .inr ⟨_, _, rfl, rfl⟩
theorem bit2L : Statement .bit2L := fun _ => .inr ⟨_, _, rfl, rfl⟩
theorem bit2AtHl : Statement .bit2AtHl := fun _ => .inr ⟨_, _, rfl, rfl⟩
theorem bit2A : Statement .bit2A := fun _ => .inr ⟨_, _, rfl, rfl⟩
theorem bit3B : Statement .bit3B := fun _ => .inr ⟨_, _, rfl, rfl⟩
theorem bit3C : Statement .bit3C := fun _ => .inr ⟨_, _, rfl, rfl⟩
theorem bit3D : Statement .bit3D := fun _ => .inr ⟨_, _, rfl, rfl⟩
theorem bit3E : Statement .bit3E := fun _ => .inr ⟨_, _, rfl, rfl⟩
theorem bit3H : Statement .bit3H := fun _ => .inr ⟨_, _, rfl, rfl⟩
theorem bit3L : Statement .bit3L := fun _ => .inr ⟨_, _, rfl, rfl⟩
theorem bit3AtHl : Statement .bit3AtHl := fun _ => .inr ⟨_, _, rfl, rfl⟩
theorem bit3A : Statement .bit3A := fun _ => .inr ⟨_, _, rfl, rfl⟩
theorem bit4B : Statement .bit4B := fun _ => .inr ⟨_, _, rfl, rfl⟩
theorem bit4C : Statement .bit4C := fun _ => .inr ⟨_, _, rfl, rfl⟩
theorem bit4D : Statement .bit4D := fun _ => .inr ⟨_, _, rfl, rfl⟩
theorem bit4E : Statement .bit4E := fun _ => .inr ⟨_, _, rfl, rfl⟩
theorem bit4H : Statement .bit4H := fun _ => .inr ⟨_, _, rfl, rfl⟩
theorem bit4L : Statement .bit4L := fun _ => .inr ⟨_, _, rfl, rfl⟩
theorem bit4AtHl : Statement .bit4AtHl := fun _ => .inr ⟨_, _, rfl, rfl⟩
theorem bit4A : Statement .bit4A := fun _ => .inr ⟨_, _, rfl, rfl⟩
theorem bit5B : Statement .bit5B := fun _ => .inr ⟨_, _, rfl, rfl⟩
theorem bit5C : Statement .bit5C := fun _ => .inr ⟨_, _, rfl, rfl⟩
theorem bit5D : Statement .bit5D := fun _ => .inr ⟨_, _, rfl, rfl⟩
theorem bit5E : Statement .bit5E := fun _ => .inr ⟨_, _, rfl, rfl⟩
theorem bit5H : Statement .bit5H := fun _ => .inr ⟨_, _, rfl, rfl⟩
theorem bit5L : Statement .bit5L := fun _ => .inr ⟨_, _, rfl, rfl⟩
theorem bit5AtHl : Statement .bit5AtHl := fun _ => .inr ⟨_, _, rfl, rfl⟩
theorem bit5A : Statement .bit5A := fun _ => .inr ⟨_, _, rfl, rfl⟩
theorem bit6B : Statement .bit6B := fun _ => .inr ⟨_, _, rfl, rfl⟩
theorem bit6C : Statement .bit6C := fun _ => .inr ⟨_, _, rfl, rfl⟩
theorem bit6D : Statement .bit6D := fun _ => .inr ⟨_, _, rfl, rfl⟩
theorem bit6E : Statement .bit6E := fun _ => .inr ⟨_, _, rfl, rfl⟩
theorem bit6H : Statement .bit6H := fun _ => .inr ⟨_, _, rfl, rfl⟩
theorem bit6L : Statement .bit6L := fun _ => .inr ⟨_, _, rfl, rfl⟩
theorem bit6AtHl : Statement .bit6AtHl := fun _ => .inr ⟨_, _, rfl, rfl⟩
theorem bit6A : Statement .bit6A := fun _ => .inr ⟨_, _, rfl, rfl⟩
theorem bit7B : Statement .bit7B := fun _ => .inr ⟨_, _, rfl, rfl⟩
theorem bit7C : Statement .bit7C := fun _ => .inr ⟨_, _, rfl, rfl⟩
theorem bit7D : Statement .bit7D := fun _ => .inr ⟨_, _, rfl, rfl⟩
theorem bit7E : Statement .bit7E := fun _ => .inr ⟨_, _, rfl, rfl⟩
theorem bit7H : Statement .bit7H := fun _ => .inr ⟨_, _, rfl, rfl⟩
theorem bit7L : Statement .bit7L := fun _ => .inr ⟨_, _, rfl, rfl⟩
theorem bit7AtHl : Statement .bit7AtHl := fun _ => .inr ⟨_, _, rfl, rfl⟩
theorem bit7A : Statement .bit7A := fun _ => .inr ⟨_, _, rfl, rfl⟩
theorem res0B : Statement .res0B := fun _ => .inr ⟨_, _, rfl, rfl⟩
theorem res0C : Statement .res0C := fun _ => .inr ⟨_, _, rfl, rfl⟩
theorem res0D : Statement .res0D := fun _ => .inr ⟨_, _, rfl, rfl⟩
theorem res0E : Statement .res0E := fun _ => .inr ⟨_, _, rfl, rfl⟩
theorem res0H : Statement .res0H := fun _ => .inr ⟨_, _, rfl, rfl⟩
theorem res0L : Statement .res0L := fun _ => .inr ⟨_, _, rfl, rfl⟩
theorem res0AtHl : Statement .res0AtHl := fun _ => .inr ⟨_, _, rfl, rfl⟩
theorem res0A : Statement .res0A := fun _ => .inr ⟨_, _, rfl, rfl⟩
theorem res1B : Statement .res1B := fun _ => .inr ⟨_, _, rfl, rfl⟩
theorem res1C : Statement .res1C := fun _ => .inr ⟨_, _, rfl, rfl⟩
theorem res1D : Statement .res1D := fun _ => .inr ⟨_, _, rfl, rfl⟩
theorem res1E : Statement .res1E := fun _ => .inr ⟨_, _, rfl, rfl⟩
theorem res1H : Statement .res1H := fun _ => .inr ⟨_, _, rfl, rfl⟩
theorem res1L : Statement .res1L := fun _ => .inr ⟨_, _, rfl, rfl⟩
theorem res1AtHl : Statement .res1AtHl := fun _ => .inr ⟨_, _, rfl, rfl⟩
theorem res1A : Statement .res1A := fun _ => .inr ⟨_, _, rfl, rfl⟩
theorem res2B : Statement .res2B := fun _ => .inr ⟨_, _, rfl, rfl⟩
theorem res2C : Statement .res2C := fun _ => .inr ⟨_, _, rfl, rfl⟩
theorem res2D : Statement .res2D := fun _ => .inr ⟨_, _, rfl, rfl⟩
theorem res2E : Statement .res2E := fun _ => .inr ⟨_, _, rfl, rfl⟩
theorem res2H : Statement .res2H := fun _ => .inr ⟨_, _, rfl, rfl⟩
theorem res2L : Statement .res2L := fun _ => .inr ⟨_, _, rfl, rfl⟩
theorem res2AtHl : Statement .res2AtHl := fun _ => .inr ⟨_, _, rfl, rfl⟩
theorem res2A : Statement .res2A := fun _ => .inr ⟨_, _, rfl, rfl⟩
theorem res3B : Statement .res3B := fun _ => .inr ⟨_, _, rfl, rfl⟩
theorem res3C : Statement .res3C := fun _ => .inr ⟨_, _, rfl, rfl⟩
theorem res3D : Statement .res3D := fun _ => .inr ⟨_, _, rfl, rfl⟩
theorem res3E : Statement .res3E := fun _ => .inr ⟨_, _, rfl, rfl⟩
theorem res3H : Statement .res3H := fun _ => .inr ⟨_, _, rfl, rfl⟩
theorem res3L : Statement .res3L := fun _ => .inr ⟨_, _, rfl, rfl⟩
theorem res3AtHl : Statement .res3AtHl := fun _ => .inr ⟨_, _, rfl, rfl⟩
theorem res3A : Statement .res3A := fun _ => .inr ⟨_, _, rfl, rfl⟩
theorem res4B : Statement .res4B := fun _ => .inr ⟨_, _, rfl, rfl⟩
theorem res4C : Statement .res4C := fun _ => .inr ⟨_, _, rfl, rfl⟩
theorem res4D : Statement .res4D := fun _ => .inr ⟨_, _, rfl, rfl⟩
theorem res4E : Statement .res4E := fun _ => .inr ⟨_, _, rfl, rfl⟩
theorem res4H : Statement .res4H := fun _ => .inr ⟨_, _, rfl, rfl⟩
theorem res4L : Statement .res4L := fun _ => .inr ⟨_, _, rfl, rfl⟩
theorem res4AtHl : Statement .res4AtHl := fun _ => .inr ⟨_, _, rfl, rfl⟩
theorem res4A : Statement .res4A := fun _ => .inr ⟨_, _, rfl, rfl⟩
theorem res5B : Statement .res5B := fun _ => .inr ⟨_, _, rfl, rfl⟩
theorem res5C : Statement .res5C := fun _ => .inr ⟨_, _, rfl, rfl⟩
theorem res5D : Statement .res5D := fun _ => .inr ⟨_, _, rfl, rfl⟩
theorem res5E : Statement .res5E := fun _ => .inr ⟨_, _, rfl, rfl⟩
theorem res5H : Statement .res5H := fun _ => .inr ⟨_, _, rfl, rfl⟩
theorem res5L : Statement .res5L := fun _ => .inr ⟨_, _, rfl, rfl⟩
theorem res5AtHl : Statement .res5AtHl := fun _ => .inr ⟨_, _, rfl, rfl⟩
theorem res5A : Statement .res5A := fun _ => .inr ⟨_, _, rfl, rfl⟩
theorem res6B : Statement .res6B := fun _ => .inr ⟨_, _, rfl, rfl⟩
theorem res6C : Statement .res6C := fun _ => .inr ⟨_, _, rfl, rfl⟩
theorem res6D : Statement .res6D := fun _ => .inr ⟨_, _, rfl, rfl⟩
theorem res6E : Statement .res6E := fun _ => .inr ⟨_, _, rfl, rfl⟩
theorem res6H : Statement .res6H := fun _ => .inr ⟨_, _, rfl, rfl⟩
theorem res6L : Statement .res6L := fun _ => .inr ⟨_, _, rfl, rfl⟩
theorem res6AtHl : Statement .res6AtHl := fun _ => .inr ⟨_, _, rfl, rfl⟩
theorem res6A : Statement .res6A := fun _ => .inr ⟨_, _, rfl, rfl⟩
theorem res7B : Statement .res7B := fun _ => .inr ⟨_, _, rfl, rfl⟩
theorem res7C : Statement .res7C := fun _ => .inr ⟨_, _, rfl, rfl⟩
theorem res7D : Statement .res7D := fun _ => .inr ⟨_, _, rfl, rfl⟩
theorem res7E : Statement .res7E := fun _ => .inr ⟨_, _, rfl, rfl⟩
theorem res7H : Statement .res7H := fun _ => .inr ⟨_, _, rfl, rfl⟩
theorem res7L : Statement .res7L := fun _ => .inr ⟨_, _, rfl, rfl⟩
theorem res7AtHl : Statement .res7AtHl := fun _ => .inr ⟨_, _, rfl, rfl⟩
theorem res7A : Statement .res7A := fun _ => .inr ⟨_, _, rfl, rfl⟩
theorem set0B : Statement .set0B := fun _ => .inr ⟨_, _, rfl, rfl⟩
theorem set0C : Statement .set0C := fun _ => .inr ⟨_, _, rfl, rfl⟩
theorem set0D : Statement .set0D := fun _ => .inr ⟨_, _, rfl, rfl⟩
theorem set0E : Statement .set0E := fun _ => .inr ⟨_, _, rfl, rfl⟩
theorem set0H : Statement .set0H := fun _ => .inr ⟨_, _, rfl, rfl⟩
theorem set0L : Statement .set0L := fun _ => .inr ⟨_, _, rfl, rfl⟩
theorem set0AtHl : Statement .set0AtHl := fun _ => .inr ⟨_, _, rfl, rfl⟩
theorem set0A : Statement .set0A := fun _ => .inr ⟨_, _, rfl, rfl⟩
theorem set1B : Statement .set1B := fun _ => .inr ⟨_, _, rfl, rfl⟩
theorem set1C : Statement .set1C := fun _ => .inr ⟨_, _, rfl, rfl⟩
theorem set1D : Statement .set1D := fun _ => .inr ⟨_, _, rfl, rfl⟩
theorem set1E : Statement .set1E := fun _ => .inr ⟨_, _, rfl, rfl⟩
theorem set1H : Statement .set1H := fun _ => .inr ⟨_, _, rfl, rfl⟩
theorem set1L : Statement .set1L := fun _ => .inr ⟨_, _, rfl, rfl⟩
theorem set1AtHl : Statement .set1AtHl := fun _ => .inr ⟨_, _, rfl, rfl⟩
theorem set1A : Statement .set1A := fun _ => .inr ⟨_, _, rfl, rfl⟩
theorem set2B : Statement .set2B := fun _ => .inr ⟨_, _, rfl, rfl⟩
theorem set2C : Statement .set2C := fun _ => .inr ⟨_, _, rfl, rfl⟩
theorem set2D : Statement .set2D := fun _ => .inr ⟨_, _, rfl, rfl⟩
theorem set2E : Statement .set2E := fun _ => .inr ⟨_, _, rfl, rfl⟩
theorem set2H : Statement .set2H := fun _ => .inr ⟨_, _, rfl, rfl⟩
theorem set2L : Statement .set2L := fun _ => .inr ⟨_, _, rfl, rfl⟩
theorem set2AtHl : Statement .set2AtHl := fun _ => .inr ⟨_, _, rfl, rfl⟩
theorem set2A : Statement .set2A := fun _ => .inr ⟨_, _, rfl, rfl⟩
theorem set3B : Statement .set3B := fun _ => .inr ⟨_, _, rfl, rfl⟩
theorem set3C : Statement .set3C := fun _ => .inr ⟨_, _, rfl, rfl⟩
theorem set3D : Statement .set3D := fun _ => .inr ⟨_, _, rfl, rfl⟩
theorem set3E : Statement .set3E := fun _ => .inr ⟨_, _, rfl, rfl⟩
theorem set3H : Statement .set3H := fun _ => .inr ⟨_, _, rfl, rfl⟩
theorem set3L : Statement .set3L := fun _ => .inr ⟨_, _, rfl, rfl⟩
theorem set3AtHl : Statement .set3AtHl := fun _ => .inr ⟨_, _, rfl, rfl⟩
theorem set3A : Statement .set3A := fun _ => .inr ⟨_, _, rfl, rfl⟩
theorem set4B : Statement .set4B := fun _ => .inr ⟨_, _, rfl, rfl⟩
theorem set4C : Statement .set4C := fun _ => .inr ⟨_, _, rfl, rfl⟩
theorem set4D : Statement .set4D := fun _ => .inr ⟨_, _, rfl, rfl⟩
theorem set4E : Statement .set4E := fun _ => .inr ⟨_, _, rfl, rfl⟩
theorem set4H : Statement .set4H := fun _ => .inr ⟨_, _, rfl, rfl⟩
theorem set4L : Statement .set4L := fun _ => .inr ⟨_, _, rfl, rfl⟩
theorem set4AtHl : Statement .set4AtHl := fun _ => .inr ⟨_, _, rfl, rfl⟩
theorem set4A : Statement .set4A := fun _ => .inr ⟨_, _, rfl, rfl⟩
theorem set5B : Statement .set5B := fun _ => .inr ⟨_, _, rfl, rfl⟩
theorem set5C : Statement .set5C := fun _ => .inr ⟨_, _, rfl, rfl⟩
theorem set5D : Statement .set5D := fun _ => .inr ⟨_, _, rfl, rfl⟩
theorem set5E : Statement .set5E := fun _ => .inr ⟨_, _, rfl, rfl⟩
theorem set5H : Statement .set5H := fun _ => .inr ⟨_, _, rfl, rfl⟩
theorem set5L : Statement .set5L := fun _ => .inr ⟨_, _, rfl, rfl⟩
theorem set5AtHl : Statement .set5AtHl := fun _ => .inr ⟨_, _, rfl, rfl⟩
theorem set5A : Statement .set5A := fun _ => .inr ⟨_, _, rfl, rfl⟩
theorem set6B : Statement .set6B := fun _ => .inr ⟨_, _, rfl, rfl⟩
theorem set6C : Statement .set6C := fun _ => .inr ⟨_, _, rfl, rfl⟩
theorem set6D : Statement .set6D := fun _ => .inr ⟨_, _, rfl, rfl⟩
theorem set6E : Statement .set6E := fun _ => .inr ⟨_, _, rfl, rfl⟩
theorem set6H : Statement .set6H := fun _ => .inr ⟨_, _, rfl, rfl⟩
theorem set6L : Statement .set6L := fun _ => .inr ⟨_, _, rfl, rfl⟩
theorem set6AtHl : Statement .set6AtHl := fun _ => .inr ⟨_, _, rfl, rfl⟩
theorem set6A : Statement .set6A := fun _ => .inr ⟨_, _, rfl, rfl⟩
theorem set7B : Statement .set7B := fun _ => .inr ⟨_, _, rfl, rfl⟩
theorem set7C : Statement .set7C := fun _ => .inr ⟨_, _, rfl, rfl⟩
theorem set7D : Statement .set7D := fun _ => .inr ⟨_, _, rfl, rfl⟩
theorem set7E : Statement .set7E := fun _ => .inr ⟨_, _, rfl, rfl⟩
theorem set7H : Statement .set7H := fun _ => .inr ⟨_, _, rfl, rfl⟩
theorem set7L : Statement .set7L := fun _ => .inr ⟨_, _, rfl, rfl⟩
theorem set7AtHl : Statement .set7AtHl := fun _ => .inr ⟨_, _, rfl, rfl⟩
theorem set7A : Statement .set7A := fun _ => .inr ⟨_, _, rfl, rfl⟩

end Sys2Proof.Laws.Length
end

