-- ==== Sys2Proof/Laws/Step.lean ====
section
/-! SUPPORT. What an instruction and a step can do, said once: a step is a chain of the named updates,
so it keeps every property that each update keeps; with TRUE_MIRROR it always answers a state. -/

namespace Sys2Proof.Machine

/-- A property that every named update of a state keeps. -/
structure Kept (P : State → Prop) : Prop where
  setReg : ∀ s r v, P s → P (s.setReg r v)
  setBc : ∀ s v, P s → P (s.setBc v)
  setDe : ∀ s v, P s → P (s.setDe v)
  setHl : ∀ s v, P s → P (s.setHl v)
  setSp : ∀ s v, P s → P (s.setSp v)
  setPc : ∀ s v, P s → P (s.setPc v)
  writeFlags : ∀ s w, P s → P (s.writeFlags w)
  setStopped : ∀ s, P s → P s.setStopped
  setHalted : ∀ s, P s → P s.setHalted
  setIme : ∀ s v, P s → P (s.setIme v)
  raise : ∀ s r, r.latchable = true → P s → P (s.raise r)
  afterLoad : ∀ s x, P s → P (s.afterLoad x)
  store : ∀ s x v, P s → P (s.store x v)

namespace Kept

variable {P : State → Prop} (k : Kept P) {s t : State}
include k

theorem setFlags (s : State) (f : Flags) (h : P s) : P (s.setFlags f) := k.writeFlags _ _ h

/-- Reading registers and flags keeps the property, if what follows does. -/
theorem elim {names : List RegName} {n : Nat} {Q : Prop} (h : P s)
    (e : s.stopsUnread names n t ∨ s.firstUnwritten names = none ∧ Q) (hq : Q → P t) : P t := by
  rcases e with ⟨_, _, rfl⟩ | ⟨_, e⟩
  · exact k.raise _ _ rfl h
  · exact hq e

theorem afterR8 (r : R8) (h : P s) : P (s.afterR8 r) := by
  cases r with
  | reg r => exact h
  | atHl => exact k.afterLoad _ _ h

theorem putR8 (r : R8) (v : Byte) (h : P s) : P (s.putR8 r v) := by
  cases r with
  | reg r => exact k.setReg _ _ _ h
  | atHl => exact k.store _ _ _ h

theorem setPair (p : Pair) (v : Word) (h : P s) : P (s.setPair p v) := by
  cases p
  · exact k.setBc _ _ h
  · exact k.setDe _ _ h
  · exact k.setHl _ _ h
  · exact k.setSp _ _ h

theorem setStackPair (p : StackPair) (v : Word) (h : P s) : P (s.setStackPair p v) := by
  cases p
  · exact k.setBc _ _ h
  · exact k.setDe _ _ h
  · exact k.setHl _ _ h
  · exact k.setFlags _ _ (k.setReg _ _ _ h)

theorem afterInd (p : IndAddr) (h : P s) : P (s.afterInd p) := by
  cases p
  · exact h
  · exact h
  · exact k.setHl _ _ h
  · exact k.setHl _ _ h

theorem pushed (v : Word) (h : P s) : P (s.pushed v) :=
  k.store _ _ _ (k.setSp _ _ (k.store _ _ _ (k.setSp _ _ h)))

theorem popped (h : P s) : P s.popped :=
  k.setSp _ _ (k.afterLoad _ _ (k.setSp _ _ (k.afterLoad _ _ h)))

theorem alu (op : AluOp) (v : Byte) (h : P s) : P (s.alu op v) := by
  simp only [State.alu]
  cases aluValue op (s.getReg .a) v s.flags.c with
  | none => exact k.setFlags _ _ h
  | some r => exact k.setFlags _ _ (k.setReg _ _ _ h)

theorem raiseIllegal (op : Byte) (n : Nat) (h : P s) : P (s.raiseIllegal op n) :=
  k.raise _ _ rfl (k.setPc _ _ h)

theorem rotR8 {row : RotOp} {r : R8} (h : P s) (e : Machine.rotR8 row r s = .next t) : P t := by
  exact k.elim h (rotR8_next_iff.1 e) fun e => k.elim (k.afterR8 _ h) (by simpa using e.2) fun e => by
    rw [e]; exact k.setFlags _ _ (k.putR8 _ _ (k.afterR8 _ h))

theorem bitR8 {b : Nat} {r : R8} (h : P s) (e : Machine.bitR8 b r s = .next t) : P t := by
  exact k.elim h (bitR8_next_iff.1 e) fun e => by rw [e.2]; exact k.writeFlags _ _ (k.afterR8 _ h)

theorem resR8 {b : Nat} {r : R8} (h : P s) (e : Machine.resR8 b r s = .next t) : P t := by
  exact k.elim h (resR8_next_iff.1 e) fun e => by rw [e.2]; exact k.putR8 _ _ (k.afterR8 _ h)

theorem setR8 {b : Nat} {r : R8} (h : P s) (e : Machine.setR8 b r s = .next t) : P t := by
  exact k.elim h (setR8_next_iff.1 e) fun e => by rw [e.2]; exact k.putR8 _ _ (k.afterR8 _ h)

theorem rotA {o : RotOp} (h : P s) (e : Machine.rotA o s = .next t) : P t := by
  exact k.elim h (reading_next_next_iff.1 e) fun e => by
    rw [e]; exact k.setFlags _ _ (k.setReg _ _ _ h)

theorem callFrom {n : Nat} {x : Word} (h : P s) (e : Machine.callFrom n x s = .next t) : P t :=
  k.elim h (callFrom_next_iff.1 e) fun e => by rw [e.2]; exact k.setPc _ _ (k.pushed _ h)

theorem ret (h : P s) (e : Machine.ret s = .next t) : P t := by
  exact k.elim h (ret_next_iff.1 e) fun e => by rw [e.2]; exact k.setPc _ _ (k.popped h)

theorem extendedRule {b : Byte} (h : P s) (e : Machine.extendedRule b s = .next t) : P t := by
  simp only [Machine.extendedRule] at e
  split at e
  · exact k.rotR8 h e
  · exact k.bitR8 h e
  · exact k.resR8 h e
  · exact k.setR8 h e

theorem fetchImm8 {p : Byte × State} (h : P s) (e : Machine.fetchImm8 s = .next p) : P p.2 := by
  simp only [Machine.fetchImm8, andThen_eq_next, memRead_next_iff] at e
  obtain ⟨_, ⟨_, rfl⟩, e⟩ := e
  rw [next_inj.1 e]
  exact k.setPc _ _ (k.afterLoad _ _ h)

omit k in
theorem ite_next {c : Prop} [Decidable c] {o : Res State} (h : P s)
    (ho : o = .next t → P t) (e : (if c then o else .next s) = .next t) : P t := by
  split at e
  · exact ho e
  · rw [next_inj.1 e]; exact h

/-- An instruction that answers a next state keeps the property. -/
theorem exec (i : Instr) (h : P s) : Machine.exec i s = .next t → P t := by
  cases i using Instr.byForm with
  | h_class01 d z =>
    intro e
    rw [exec_class01] at e
    split at e
    · rw [next_inj.1 e]; exact k.setHalted _ h
    · exact k.elim h (ldR8R8_next_iff.1 e) fun e => by rw [e.2]; exact k.putR8 _ _ (k.afterR8 _ h)
  | h_aluR8 op r =>
    intro e
    rw [exec_aluR8] at e
    exact k.elim h (aluR8_next_iff.1 e) fun e => k.elim (k.afterR8 _ h) (by simpa using e.2) fun e => by
      rw [e]; exact k.alu _ _ (k.afterR8 _ h)
  | h_aluN8 op n =>
    intro e; rw [exec_aluN8] at e; exact k.elim h (reading_next_next_iff.1 e) fun e => by
      rw [e]; exact k.alu _ _ h
  | h_incR8 r =>
    intro e; rw [exec_incR8] at e; exact k.elim h (incR8_next_iff.1 e) fun e => by
      rw [e.2]; exact k.writeFlags _ _ (k.putR8 _ _ (k.afterR8 _ h))
  | h_decR8 r =>
    intro e; rw [exec_decR8] at e; exact k.elim h (decR8_next_iff.1 e) fun e => by
      rw [e.2]; exact k.writeFlags _ _ (k.putR8 _ _ (k.afterR8 _ h))
  | h_ldR8N8 r n =>
    intro e; rw [exec_ldR8N8] at e; exact k.elim h (ldR8N8_next_iff.1 e) fun e => by
      rw [e.2]; exact k.putR8 _ _ h
  | h_ldPairN16 p nn => intro e; rw [exec_ldPairN16] at e; rw [next_inj.1 e]; exact k.setPair _ _ h
  | h_addHlPair p =>
    intro e; rw [exec_addHlPair] at e; exact k.elim h (reading_next_next_iff.1 e) fun e => by
      rw [e]; exact k.writeFlags _ _ (k.setHl _ _ h)
  | h_incPair p =>
    intro e; rw [exec_incPair] at e; exact k.elim h (reading_next_next_iff.1 e) fun e => by
      rw [e]; exact k.setPair _ _ h
  | h_decPair p =>
    intro e; rw [exec_decPair] at e; exact k.elim h (reading_next_next_iff.1 e) fun e => by
      rw [e]; exact k.setPair _ _ h
  | h_pushPair p =>
    intro e; rw [exec_pushPair] at e; exact k.elim h (pushPair_next_iff.1 e) fun e => by
      rw [e.2]; exact k.pushed _ h
  | h_popPair p =>
    intro e; rw [exec_popPair] at e; exact k.elim h (popPair_next_iff.1 e) fun e => by
      rw [e.2]; exact k.setStackPair _ _ (k.popped h)
  | h_storeInd p =>
    intro e; rw [exec_storeInd] at e; exact k.elim h (storeAInd_next_iff.1 e) fun e => by
      rw [e.2]; exact k.afterInd _ (k.store _ _ _ h)
  | h_loadInd p =>
    intro e; rw [exec_loadInd] at e; exact k.elim h (loadAInd_next_iff.1 e) fun e => by
      rw [e.2]; exact k.afterInd _ (k.setReg _ _ _ (k.afterLoad _ _ h))
  | h_accOp o =>
    intro e
    rw [exec_accOp] at e
    cases o with
    | daa =>
      exact k.elim h (reading_next_next_iff.1 e) fun e => by
        rw [e]; exact k.writeFlags _ _ (k.setReg _ _ _ h)
    | cpl =>
      exact k.elim h (reading_next_next_iff.1 e) fun e => by
        rw [e]; exact k.writeFlags _ _ (k.setReg _ _ _ h)
    | scf => rw [next_inj.1 e]; exact k.writeFlags _ _ h
    | ccf =>
      rcases ccf_next_iff.1 e with ⟨_, _, rfl⟩ | ⟨_, rfl⟩
      · exact k.raise _ _ rfl (k.writeFlags _ _ h)
      · exact k.writeFlags _ _ h
    | _ => exact k.rotA h e
  | h_jrCc cc x =>
    intro e; rw [exec_jrCc] at e
    refine k.elim h (reading_next_iff.1 e) (ite_next h fun e => ?_)
    rw [next_inj.1 e]; exact k.setPc _ _ h
  | h_jpCc cc x =>
    intro e; rw [exec_jpCc] at e
    refine k.elim h (reading_next_iff.1 e) (ite_next h fun e => ?_)
    rw [next_inj.1 e]; exact k.setPc _ _ h
  | h_callCc cc x =>
    intro e
    rw [exec_callCc, callIf] at e
    split at e
    · rw [next_inj.1 e]; exact k.raiseIllegal _ _ h
    · exact k.elim h (reading_next_iff.1 e) (ite_next h fun e => k.callFrom h e)
  | h_retCc cc =>
    intro e
    rw [exec_retCc] at e
    exact k.elim h (reading_next_iff.1 e) (ite_next h fun e => k.ret h e)
  | h_rst y => intro e; rw [exec_rst] at e; exact k.callFrom h e
  | h_rot o r => intro e; rw [exec_rot] at e; exact k.rotR8 h e
  | h_bit b r => intro e; rw [exec_bit] at e; exact k.bitR8 h e
  | h_res b r => intro e; rw [exec_res] at e; exact k.resR8 h e
  | h_set b r => intro e; rw [exec_set] at e; exact k.setR8 h e
  | h_nop => intro e; rw [next_inj.1 e]; exact h
  | h_stop => intro e; rw [next_inj.1 e]; exact k.setStopped _ h
  | h_di => intro e; rw [next_inj.1 e]; exact k.setIme _ _ h
  | h_ei => intro e; rw [next_inj.1 e]; exact k.setIme _ _ h
  | h_illegal op => intro e; rw [next_inj.1 e]; exact k.raiseIllegal _ _ h
  | h_prefixCb =>
    intro e
    change prefixExtended s = .next t at e
    simp only [prefixExtended, andThen_eq_next] at e
    obtain ⟨p, e1, e2⟩ := e
    exact k.extendedRule (k.fetchImm8 h e1) e2
  | h_ldAtA16Sp x =>
    intro e; exact k.elim h (storeSp_next_iff.1 (show storeSp x s = _ from e)) fun e => by
      rw [e.2]; exact k.store _ _ _ (k.store _ _ _ h)
  | h_jrE8 x => intro e; rw [next_inj.1 e]; exact k.setPc _ _ h
  | h_ldhAtA8A n =>
    intro e
    exact k.elim h (reading_next_iff.1 e) fun e => by
      rw [(storeA_next_iff.1 e).2]; exact k.store _ _ _ h
  | h_ldhAAtA8 n => intro e; rw [(loadA_next_iff.1 e).2]; exact k.setReg _ _ _ (k.afterLoad _ _ h)
  | h_ldAtCA =>
    intro e
    exact k.elim h (reading_next_iff.1 e) fun e => by
      rw [(storeA_next_iff.1 e).2]; exact k.store _ _ _ h
  | h_ldAAtC =>
    intro e
    exact k.elim h (reading_next_iff.1 e) fun e => by
      rw [(loadA_next_iff.1 e).2]; exact k.setReg _ _ _ (k.afterLoad _ _ h)
  | h_ldAtA16A x =>
    intro e
    exact k.elim h (reading_next_iff.1 e) fun e => by
      rw [(storeA_next_iff.1 e).2]; exact k.store _ _ _ h
  | h_ldAAtA16 x => intro e; rw [(loadA_next_iff.1 e).2]; exact k.setReg _ _ _ (k.afterLoad _ _ h)
  | h_addSpE8 x =>
    intro e; exact k.elim h (reading_next_next_iff.1 e) fun e => by
      rw [e]; exact k.setFlags _ _ (k.setSp _ _ h)
  | h_ldHlSpE8 x =>
    intro e; exact k.elim h (reading_next_next_iff.1 e) fun e => by
      rw [e]; exact k.setFlags _ _ (k.setHl _ _ h)
  | h_ldSpHl =>
    intro e; exact k.elim h (reading_next_next_iff.1 e) fun e => by
      rw [e]; exact k.setSp _ _ h
  | h_ret => intro e; exact k.ret h e
  | h_reti =>
    intro e; exact k.elim h (reti_next_iff.1 (show reti s = _ from e)) fun e => by
      rw [e.2]; exact k.setIme _ _ (k.setPc _ _ (k.popped h))
  | h_jpHl =>
    intro e; exact k.elim h (reading_next_next_iff.1 e) fun e => by
      rw [e]; exact k.setPc _ _ h
  | h_jpA16 x => intro e; rw [next_inj.1 e]; exact k.setPc _ _ h
  | h_callA16 x => intro e; exact k.callFrom h e

/-- Fetching keeps the property. -/
theorem fetchOperand (n : Nat) {p : List Byte × State} (h : P s)
    (e : Machine.fetchOperand n s = .next p) : P p.2 := by
  induction n generalizing s p with
  | zero => rw [next_inj.1 e]; exact h
  | succ n ih =>
    simp only [Machine.fetchOperand, andThen_eq_next] at e
    obtain ⟨_, e1, _, e2, e3⟩ := e
    rw [next_inj.1 e3]
    have hp := ih (k.fetchImm8 h e1) e2
    exact hp

theorem fetchInstr {p : Instr × State} (h : P s) (e : Machine.fetchInstr s = .next p) : P p.2 := by
  simp only [Machine.fetchInstr, Machine.fetchBytes, Machine.fetchOpcode, andThen_eq_next,
    memRead_next_iff] at e
  obtain ⟨b, ⟨o, ⟨_, ⟨_, rfl⟩, e1⟩, e2⟩, e3⟩ := e
  rw [next_inj.1 e3]
  have ho : P o.2 := by
    rw [next_inj.1 e1]
    change P (State.pastOpcode _)
    unfold State.pastOpcode
    split
    · exact k.afterLoad _ _ h
    · exact k.setPc _ _ (k.afterLoad _ _ h)
  split at e2
  · rw [next_inj.1 e2]; exact ho
  · rw [andThen_eq_next] at e2
    obtain ⟨_, e4, e5⟩ := e2
    rw [next_inj.1 e5]
    exact k.fetchOperand _ ho e4

/-- A step that answers a next state keeps the property. -/
theorem step (h : P s) (e : Machine.step s = .next t) : P t := by
  simp only [Machine.step] at e
  split at e
  · cases e
  · split at e
    · rw [next_inj.1 e]; exact h
    · rw [andThen_eq_next] at e
      obtain ⟨p, e1, e2⟩ := e
      exact k.exec p.1 (k.fetchInstr h e1) e2

end Kept

end Sys2Proof.Machine
end

