-- ==== Sys2Proof/Tests/Slice0.lean ====
section
/-! SUPPORT. The model's own tests: the check on ill-formed terms, every row of the two opcode maps,
vectors of spec/95_test_vectors.md, and for every statement with hypotheses a state that meets them. -/

namespace Sys2Proof.Tests

open Sys2Proof.Machine

/-! ## Well-formedness: the one check there is -/

theorem test_wf_refuses_a_legal_opcode : (Instr.illegal 0x00).wf = false := by decide
theorem test_wf_refuses_the_prefix : (Instr.illegal 0xCB).wf = false := by decide
theorem test_wf_accepts_an_illegal_opcode : (Instr.illegal 0xD3).wf = true := by decide

/-! ## Decoding: the maps of 30_encoding.md R138 and R139, sixteen opcodes a theorem

The bytes after the opcode are 0x34, 0x12. -/

/-- The instructions of a row of the base map. -/
def baseRow (row : Nat) : List Instr :=
  (List.range 16).map fun k => decodeInstr (BitVec.ofNat 8 (16 * row + k)) 0x34 0x12

/-- The instructions of a row of the extended map. -/
def extendedRow (row : Nat) : List Instr :=
  (List.range 16).map fun k => decodeInstr 0xCB (BitVec.ofNat 8 (16 * row + k)) 0x12

theorem test_decode_base_0x : baseRow 0x0 =
    [.nop, .ldBcN16 0x1234, .ldAtBcA, .incBc, .incB, .decB, .ldBN8 0x34, .rlca, .ldAtA16Sp 0x1234,
     .addHlBc, .ldAAtBc, .decBc, .incC, .decC, .ldCN8 0x34, .rrca] := rfl
theorem test_decode_base_1x : baseRow 0x1 =
    [.stop, .ldDeN16 0x1234, .ldAtDeA, .incDe, .incD, .decD, .ldDN8 0x34, .rla, .jrE8 0x34,
     .addHlDe, .ldAAtDe, .decDe, .incE, .decE, .ldEN8 0x34, .rra] := rfl
theorem test_decode_base_2x : baseRow 0x2 =
    [.jrNzE8 0x34, .ldHlN16 0x1234, .ldAtHlIncA, .incHl, .incH, .decH, .ldHN8 0x34, .daa,
     .jrZE8 0x34, .addHlHl, .ldAAtHlInc, .decHl, .incL, .decL, .ldLN8 0x34, .cpl] := rfl
theorem test_decode_base_3x : baseRow 0x3 =
    [.jrNcE8 0x34, .ldSpN16 0x1234, .ldAtHlDecA, .incSp, .incAtHl, .decAtHl, .ldAtHlN8 0x34, .scf,
     .jrCE8 0x34, .addHlSp, .ldAAtHlDec, .decSp, .incA, .decA, .ldAN8 0x34, .ccf] := rfl
theorem test_decode_base_4x : baseRow 0x4 =
    [.ldBB, .ldBC, .ldBD, .ldBE, .ldBH, .ldBL, .ldBAtHl, .ldBA, .ldCB, .ldCC, .ldCD, .ldCE, .ldCH,
     .ldCL, .ldCAtHl, .ldCA] := rfl
theorem test_decode_base_5x : baseRow 0x5 =
    [.ldDB, .ldDC, .ldDD, .ldDE, .ldDH, .ldDL, .ldDAtHl, .ldDA, .ldEB, .ldEC, .ldED, .ldEE, .ldEH,
     .ldEL, .ldEAtHl, .ldEA] := rfl
theorem test_decode_base_6x : baseRow 0x6 =
    [.ldHB, .ldHC, .ldHD, .ldHE, .ldHH, .ldHL, .ldHAtHl, .ldHA, .ldLB, .ldLC, .ldLD, .ldLE, .ldLH,
     .ldLL, .ldLAtHl, .ldLA] := rfl
theorem test_decode_base_7x : baseRow 0x7 =
    [.ldAtHlB, .ldAtHlC, .ldAtHlD, .ldAtHlE, .ldAtHlH, .ldAtHlL, .halt, .ldAtHlA, .ldAB, .ldAC,
     .ldAD, .ldAE, .ldAH, .ldAL, .ldAAtHl, .ldAA] := rfl
theorem test_decode_base_8x : baseRow 0x8 =
    [.addAB, .addAC, .addAD, .addAE, .addAH, .addAL, .addAAtHl, .addAA, .adcAB, .adcAC, .adcAD,
     .adcAE, .adcAH, .adcAL, .adcAAtHl, .adcAA] := rfl
theorem test_decode_base_9x : baseRow 0x9 =
    [.subAB, .subAC, .subAD, .subAE, .subAH, .subAL, .subAAtHl, .subAA, .sbcAB, .sbcAC, .sbcAD,
     .sbcAE, .sbcAH, .sbcAL, .sbcAAtHl, .sbcAA] := rfl
theorem test_decode_base_Ax : baseRow 0xA =
    [.andAB, .andAC, .andAD, .andAE, .andAH, .andAL, .andAAtHl, .andAA, .xorAB, .xorAC, .xorAD,
     .xorAE, .xorAH, .xorAL, .xorAAtHl, .xorAA] := rfl
theorem test_decode_base_Bx : baseRow 0xB =
    [.orAB, .orAC, .orAD, .orAE, .orAH, .orAL, .orAAtHl, .orAA, .cpAB, .cpAC, .cpAD, .cpAE, .cpAH,
     .cpAL, .cpAAtHl, .cpAA] := rfl
theorem test_decode_base_Cx : baseRow 0xC =
    [.retNz, .popBc, .jpNzA16 0x1234, .jpA16 0x1234, .callNzA16 0x1234, .pushBc, .addAN8 0x34,
     .rst00, .retZ, .ret, .jpZA16 0x1234, .swapH, .callZA16 0x1234, .callA16 0x1234, .adcAN8 0x34,
     .rst08] := rfl
theorem test_decode_base_Dx : baseRow 0xD =
    [.retNc, .popDe, .jpNcA16 0x1234, .illegal 0xD3, .callNcA16 0x1234, .pushDe, .subAN8 0x34,
     .rst10, .retC, .reti, .jpCA16 0x1234, .illegal 0xDB, .callCA16 0x1234, .illegal 0xDD,
     .sbcAN8 0x34, .rst18] := rfl
theorem test_decode_base_Ex : baseRow 0xE =
    [.ldhAtA8A 0x34, .popHl, .ldAtCA, .illegal 0xE3, .illegal 0xE4, .pushHl, .andAN8 0x34, .rst20,
     .addSpE8 0x34, .jpHl, .ldAtA16A 0x1234, .illegal 0xEB, .illegal 0xEC, .illegal 0xED,
     .xorAN8 0x34, .rst28] := rfl
theorem test_decode_base_Fx : baseRow 0xF =
    [.ldhAAtA8 0x34, .popAf, .ldAAtC, .di, .illegal 0xF4, .pushAf, .orAN8 0x34, .rst30,
     .ldHlSpE8 0x34, .ldSpHl, .ldAAtA16 0x1234, .ei, .illegal 0xFC, .illegal 0xFD, .cpAN8 0x34,
     .rst38] := rfl

theorem test_decode_extended_0x : extendedRow 0x0 =
    [.rlcB, .rlcC, .rlcD, .rlcE, .rlcH, .rlcL, .rlcAtHl, .rlcA, .rrcB, .rrcC, .rrcD, .rrcE, .rrcH,
     .rrcL, .rrcAtHl, .rrcA] := rfl
theorem test_decode_extended_1x : extendedRow 0x1 =
    [.rlB, .rlC, .rlD, .rlE, .rlH, .rlL, .rlAtHl, .rlA, .rrB, .rrC, .rrD, .rrE, .rrH, .rrL,
     .rrAtHl, .rrA] := rfl
theorem test_decode_extended_2x : extendedRow 0x2 =
    [.slaB, .slaC, .slaD, .slaE, .slaH, .slaL, .slaAtHl, .slaA, .sraB, .sraC, .sraD, .sraE, .sraH,
     .sraL, .sraAtHl, .sraA] := rfl
theorem test_decode_extended_3x : extendedRow 0x3 =
    [.swapB, .swapC, .swapD, .swapE, .swapH, .swapL, .swapAtHl, .swapA, .srlB, .srlC, .srlD, .srlE,
     .srlH, .srlL, .srlAtHl, .srlA] := rfl
theorem test_decode_extended_4x : extendedRow 0x4 =
    [.bit0B, .bit0C, .bit0D, .bit0E, .bit0H, .bit0L, .bit0AtHl, .bit0A, .bit1B, .bit1C, .bit1D,
     .bit1E, .bit1H, .bit1L, .bit1AtHl, .bit1A] := rfl
theorem test_decode_extended_5x : extendedRow 0x5 =
    [.bit2B, .bit2C, .bit2D, .bit2E, .bit2H, .bit2L, .bit2AtHl, .bit2A, .bit3B, .bit3C, .bit3D,
     .bit3E, .bit3H, .bit3L, .bit3AtHl, .bit3A] := rfl
theorem test_decode_extended_6x : extendedRow 0x6 =
    [.bit4B, .bit4C, .bit4D, .bit4E, .bit4H, .bit4L, .bit4AtHl, .bit4A, .bit5B, .bit5C, .bit5D,
     .bit5E, .bit5H, .bit5L, .bit5AtHl, .bit5A] := rfl
theorem test_decode_extended_7x : extendedRow 0x7 =
    [.bit6B, .bit6C, .bit6D, .bit6E, .bit6H, .bit6L, .bit6AtHl, .bit6A, .bit7B, .bit7C, .bit7D,
     .bit7E, .bit7H, .bit7L, .bit7AtHl, .bit7A] := rfl
theorem test_decode_extended_8x : extendedRow 0x8 =
    [.res0B, .res0C, .res0D, .res0E, .res0H, .res0L, .res0AtHl, .res0A, .res1B, .res1C, .res1D,
     .res1E, .res1H, .res1L, .res1AtHl, .res1A] := rfl
theorem test_decode_extended_9x : extendedRow 0x9 =
    [.res2B, .res2C, .res2D, .res2E, .res2H, .res2L, .res2AtHl, .res2A, .res3B, .res3C, .res3D,
     .res3E, .res3H, .res3L, .res3AtHl, .res3A] := rfl
theorem test_decode_extended_Ax : extendedRow 0xA =
    [.res4B, .res4C, .res4D, .res4E, .res4H, .res4L, .res4AtHl, .res4A, .res5B, .res5C, .res5D,
     .res5E, .res5H, .res5L, .res5AtHl, .res5A] := rfl
theorem test_decode_extended_Bx : extendedRow 0xB =
    [.res6B, .res6C, .res6D, .res6E, .res6H, .res6L, .res6AtHl, .res6A, .res7B, .res7C, .res7D,
     .res7E, .res7H, .res7L, .res7AtHl, .res7A] := rfl
theorem test_decode_extended_Cx : extendedRow 0xC =
    [.set0B, .set0C, .set0D, .set0E, .set0H, .set0L, .set0AtHl, .set0A, .set1B, .set1C, .set1D,
     .set1E, .set1H, .set1L, .set1AtHl, .set1A] := rfl
theorem test_decode_extended_Dx : extendedRow 0xD =
    [.set2B, .set2C, .set2D, .set2E, .set2H, .set2L, .set2AtHl, .set2A, .set3B, .set3C, .set3D,
     .set3E, .set3H, .set3L, .set3AtHl, .set3A] := rfl
theorem test_decode_extended_Ex : extendedRow 0xE =
    [.set4B, .set4C, .set4D, .set4E, .set4H, .set4L, .set4AtHl, .set4A, .set5B, .set5C, .set5D,
     .set5E, .set5H, .set5L, .set5AtHl, .set5A] := rfl
theorem test_decode_extended_Fx : extendedRow 0xF =
    [.set6B, .set6C, .set6D, .set6E, .set6H, .set6L, .set6AtHl, .set6A, .set7B, .set7C, .set7D,
     .set7E, .set7H, .set7L, .set7AtHl, .set7A] := rfl

/-- The prefix alone, a truncated instruction and no bytes (R120, R121). -/
theorem test_decode_short :
    decode [0xCB] = .ok (.prefixCb, []) ∧ decode [0x06] = .error (.truncated 0x06)
      ∧ decode [] = .error .noBytes := ⟨rfl, rfl, rfl⟩

/-! ## Vectors of spec/95_test_vectors.md, one step each -/

/-- Every register and flag is written. -/
def allWritten : Written := ⟨true, true, true, true, true, true, true, true, true, true, true, true⟩

/-- The launch state of the vectors, with NOVALUE and everything written, and the instruction's bytes
at 0xC000. -/
def launch (bytes : List Byte) : State :=
  State.placeAll { State.reset with
    pc := 0xC000, bootActive := false, config := .decided, written := allWritten } 0xC000 bytes

/-- The state after a step that answers one. -/
def after (s : State) : Option State :=
  match step s with
  | .next t => some t
  | .fault _ => none
  | .refused _ => none

/-- SYS-3 -/
theorem test_halt_ime_off : (after (launch [0x76])).map
    (fun t => (t.halted, t.pc)) = some (true, 0xC001) := by decide
/-- SYS-7 step 2 -/
theorem test_halted_operand_byte_is_the_opcode : (after { launch [0x3E] with halted := true }).map
    (fun t => (t.a, t.pc, t.halted)) = some (0x3E, 0xC001, true) := by decide
/-- SYS-10 -/
theorem test_swap_a : (after { launch [0xCB, 0x37] with a := 0xF1 }).map
    (fun t => (t.a, t.flags.toByte, t.pc)) = some (0x1F, 0x00, 0xC002) := by decide
/-- LD8-1 -/
theorem test_ldCB : (after { launch [0x48] with b := 0x12 }).map
    (fun t => (t.c, t.pc)) = some (0x12, 0xC001) := by decide
/-- LD8-3 -/
theorem test_ldHAtHl : (after { (launch [0x66]).placeAll 0xC100 [0x5A] with h := 0xC1 }).map
    (fun t => (t.h, t.l)) = some (0x5A, 0x00) := by decide
/-- LD8-4 -/
theorem test_ldAtHlH : (after { launch [0x74] with h := 0xC1, l := 0x23 }).map
    (fun t => t.loadByte 0xC123) = some 0xC1 := by decide
/-- LD8-8 -/
theorem test_ldAtHlIncA_wraps : (after { launch [0x22] with h := 0xFF, l := 0xFF, a := 0x42 }).map
    (fun t => (t.loadByte 0xFFFF, t.h, t.l)) = some (0x42, 0x00, 0x00) := by decide
/-- LD8-11 -/
theorem test_ldAAtHlDec : (after { (launch [0x3A]).placeAll 0xC101 [0x22] with h := 0xC1, l := 0x01 }).map
    (fun t => (t.a, t.h, t.l)) = some (0x22, 0xC1, 0x00) := by decide
/-- LD8-12 -/
theorem test_ldhAtA8A : (after { launch [0xE0, 0x85] with a := 0x07 }).map
    (fun t => (t.loadByte 0xFF85, t.pc)) = some (0x07, 0xC002) := by decide
/-- LD8-15 -/
theorem test_ldAAtC : (after { (launch [0xF2]).placeAll 0xFF90 [0xAB] with c := 0x90 }).map
    (fun t => t.a) = some 0xAB := by decide
/-- LD8-18 -/
theorem test_ldAAtA16_echo : (after ((launch [0xFA, 0x23, 0xE1]).placeAll 0xC123 [0x66])).map
    (fun t => (t.a, t.pc)) = some (0x66, 0xC003) := by decide
/-- LD8-20 -/
theorem test_ldAAtA16_dummy_range : (after { launch [0xFA, 0xA0, 0xFE] with a := 0x11 }).map
    (fun t => t.a) = some 0x00 := by decide
/-- LD8-21 -/
theorem test_ldAAtA16_dummy_cartridge : (after { launch [0xFA, 0x00, 0xA0] with a := 0x11 }).map
    (fun t => t.a) = some 0x00 := by decide
/-- LD8-22 -/
theorem test_ldAAtBc_clears_boot : (after { launch [0x0A] with b := 0x01, c := 0x00, bootActive := true }).map
    (fun t => (t.bootActive, t.a)) = some (false, 0x00) := by decide
/-- LD16-3 -/
theorem test_ldAtA16Sp : (after { launch [0x08, 0x00, 0xC1] with sp := 0xFFF8 }).map
    (fun t => (t.loadByte 0xC100, t.loadByte 0xC101, t.pc)) = some (0xF8, 0xFF, 0xC003) := by decide
/-- LD16-6 -/
theorem test_ldHlSpE8_negative : (after { launch [0xF8, 0xFE] with sp := 0xC000, flags := ⟨true, true, true, true⟩ }).map
    (fun t => (t.h, t.l, t.flags.toByte, t.sp)) = some (0xBF, 0xFE, 0x00, 0xC000) := by decide
/-- LD16-7 -/
theorem test_ldHlSpE8_carries : (after { launch [0xF8, 0x08] with sp := 0xFFF8 }).map
    (fun t => (t.h, t.l, t.flags.toByte)) = some (0x00, 0x00, 0x30) := by decide
/-- LD16-9 -/
theorem test_pushBc : (after { launch [0xC5] with b := 0x12, c := 0x34, sp := 0xFFFE }).map
    (fun t => (t.loadByte 0xFFFD, t.loadByte 0xFFFC, t.sp)) = some (0x12, 0x34, 0xFFFC) := by decide
/-- LD16-12 -/
theorem test_popDe_wraps : (after { (launch [0xD1]).placeAll 0xFFFF [0x34] with sp := 0xFFFF }).map
    (fun t => (t.d, t.e, t.sp)) = some (0x00, 0x34, 0x0001) := by decide
/-- LD16-13 -/
theorem test_popAf : (after { (launch [0xF1]).placeAll 0xFFFA [0xFF, 0x12] with sp := 0xFFFA }).map
    (fun t => (t.a, t.flags.toByte, t.sp)) = some (0x12, 0xF0, 0xFFFC) := by decide
/-- ALU8-1 -/
theorem test_addAB : (after { launch [0x80] with a := 0x3A, b := 0xC6 }).map
    (fun t => (t.a, t.flags.toByte)) = some (0x00, 0xB0) := by decide
/-- ALU8-5 -/
theorem test_adcAE : (after { launch [0x8B] with a := 0xE1, e := 0x0F, flags := ⟨false, false, false, true⟩ }).map
    (fun t => (t.a, t.flags.toByte)) = some (0xF1, 0x20) := by decide
/-- ALU8-10 -/
theorem test_subAN8_borrow : (after { launch [0xD6, 0x01] with a := 0x00 }).map
    (fun t => (t.a, t.flags.toByte)) = some (0xFF, 0x70) := by decide
/-- ALU8-13 -/
theorem test_sbcAN8 : (after { launch [0xDE, 0xFF] with flags := ⟨false, false, false, true⟩ }).map
    (fun t => (t.a, t.flags.toByte)) = some (0x00, 0xF0) := by decide
/-- ALU8-14 -/
theorem test_andAL : (after { launch [0xA5] with a := 0x5A, l := 0x3F }).map
    (fun t => (t.a, t.flags.toByte)) = some (0x1A, 0x20) := by decide
/-- ALU8-18 -/
theorem test_xorAN8 : (after { launch [0xEE, 0x0F] with a := 0xFF }).map
    (fun t => (t.a, t.flags.toByte)) = some (0xF0, 0x00) := by decide
/-- ALU8-19 -/
theorem test_orAN8 : (after { launch [0xF6, 0x03] with a := 0x5A, flags := ⟨true, true, true, true⟩ }).map
    (fun t => (t.a, t.flags.toByte)) = some (0x5B, 0x00) := by decide
/-- ALU8-22 -/
theorem test_cpAN8 : (after { launch [0xFE, 0x40] with a := 0x3C }).map
    (fun t => (t.a, t.flags.toByte)) = some (0x3C, 0x50) := by decide
/-- ALU8-24 -/
theorem test_incB_keeps_carry : (after { launch [0x04] with b := 0x0F, flags := ⟨false, false, false, true⟩ }).map
    (fun t => (t.b, t.flags.toByte)) = some (0x10, 0x30) := by decide
/-- ALU8-27 -/
theorem test_incAtHl : (after { (launch [0x34]).placeAll 0xC100 [0xFF] with h := 0xC1 }).map
    (fun t => (t.loadByte 0xC100, t.flags.toByte)) = some (0x00, 0xA0) := by decide
/-- ALU8-29 -/
theorem test_decB : (after { launch [0x05] with b := 0x00 }).map
    (fun t => (t.b, t.flags.toByte)) = some (0xFF, 0x60) := by decide
/-- ALU8-32 -/
theorem test_daa_after_add : (after { launch [0x27] with a := 0x9A }).map
    (fun t => (t.a, t.flags.toByte)) = some (0x00, 0x90) := by decide
/-- ALU8-34 -/
theorem test_daa_after_sub : (after { launch [0x27] with a := 0x1F, flags := ⟨false, true, true, false⟩ }).map
    (fun t => (t.a, t.flags.toByte)) = some (0x19, 0x40) := by decide
/-- ALU8-37 -/
theorem test_ccf : (after { launch [0x3F] with flags := ⟨true, false, false, true⟩ }).map
    (fun t => t.flags.toByte) = some 0x80 := by decide
/-- ALU16-4 -/
theorem test_decBc_wraps : (after (launch [0x0B])).map
    (fun t => (t.b, t.c)) = some (0xFF, 0xFF) := by decide
/-- ALU16-5 -/
theorem test_addHlBc : (after { launch [0x09] with h := 0x8A, l := 0x23, b := 0x06, c := 0x05, flags := ⟨true, false, false, false⟩ }).map
    (fun t => (t.h, t.l, t.flags.toByte)) = some (0x90, 0x28, 0xA0) := by decide
/-- ALU16-12 -/
theorem test_addSpE8_negative : (after { launch [0xE8, 0xFF] with sp := 0x0001 }).map
    (fun t => (t.sp, t.flags.toByte)) = some (0x0000, 0x30) := by decide
/-- ROT-2 -/
theorem test_rlca_clears_z : (after { launch [0x07] with flags := ⟨true, false, false, false⟩ }).map
    (fun t => (t.a, t.flags.toByte)) = some (0x00, 0x00) := by decide
/-- ROT-6 -/
theorem test_rra : (after { launch [0x1F] with a := 0x81 }).map
    (fun t => (t.a, t.flags.toByte)) = some (0x40, 0x10) := by decide
/-- ROT-12 -/
theorem test_rlB : (after { launch [0xCB, 0x10] with b := 0x80 }).map
    (fun t => (t.b, t.flags.toByte)) = some (0x00, 0x90) := by decide
/-- ROT-14 -/
theorem test_rrAtHl : (after { (launch [0xCB, 0x1E]).placeAll 0xC100 [0x8A] with h := 0xC1 }).map
    (fun t => (t.loadByte 0xC100, t.flags.toByte)) = some (0x45, 0x00) := by decide
/-- ROT-16 -/
theorem test_sraA : (after { launch [0xCB, 0x2F] with a := 0x8A }).map
    (fun t => (t.a, t.flags.toByte)) = some (0xC5, 0x00) := by decide
/-- ROT-21 -/
theorem test_bit7A : (after { launch [0xCB, 0x7F] with a := 0x80, flags := ⟨false, false, false, true⟩ }).map
    (fun t => (t.a, t.flags.toByte)) = some (0x80, 0x30) := by decide
/-- ROT-25 -/
theorem test_set3AtHl : (after { (launch [0xCB, 0xDE]).placeAll 0xC100 [0x00] with h := 0xC1 }).map
    (fun t => t.loadByte 0xC100) = some 0x08 := by decide
/-- CTL-2 -/
theorem test_jrE8_to_itself : (after (launch [0x18, 0xFE])).map
    (fun t => t.pc) = some 0xC000 := by decide
/-- CTL-3 -/
theorem test_jrE8_wraps : (after { (launch [0x00]).placeAll 0xFFFE [0x18, 0x05] with pc := 0xFFFE }).map
    (fun t => t.pc) = some 0x0005 := by decide
/-- CTL-9 -/
theorem test_jpHl : (after { launch [0xE9] with h := 0xC2 }).map
    (fun t => t.pc) = some 0xC200 := by decide
/-- CTL-10 -/
theorem test_callA16 : (after { launch [0xCD, 0x10, 0xC0] with sp := 0xFFFE }).map
    (fun t => (t.loadByte 0xFFFD, t.loadByte 0xFFFC, t.sp, t.pc)) = some (0xC0, 0x03, 0xFFFC, 0xC010) := by decide
/-- CTL-12 -/
theorem test_callZA16_not_taken : (after { launch [0xCC, 0x00, 0xD0] with sp := 0xFFFE }).map
    (fun t => (t.sp, t.pc)) = some (0xFFFE, 0xC003) := by decide
/-- CTL-15 -/
theorem test_reti : (after { (launch [0xD9]).placeAll 0xFFFC [0x08, 0xC0] with sp := 0xFFFC }).map
    (fun t => (t.pc, t.sp, t.ime)) = some (0xC008, 0xFFFE, true) := by decide
/-- CTL-17 -/
theorem test_rst28 : (after { launch [0xEF] with sp := 0xFFFE }).map
    (fun t => (t.loadByte 0xFFFD, t.loadByte 0xFFFC, t.pc)) = some (0xC0, 0x01, 0x0028) := by decide
/-- EXC-1 -/
theorem test_illegal_opcode : (after (launch [0xD3])).map
    (fun t => (t.fault, t.pc)) = some (some (.illegalInstruction 0xD3 0xC000), 0xC001) := by decide
/-- ROT-12 -/
theorem test_rlB_as_rlc : (after { launch [0xCB, 0x10] with b := 0x80, config := { Config.decided with cbRow1AsRlc := true } }).map
    (fun t => (t.b, t.flags.toByte)) = some (0x01, 0x10) := by decide
/-- CTL-13 -/
theorem test_unimplemented_call : (after { launch [0xC4, 0x00, 0xD0] with sp := 0xFFFE, config := { Config.decided with unimplCcall := ⟨true, false, false, false⟩ } }).map
    (fun t => (t.fault, t.pc, t.sp)) = some (some (.illegalInstruction 0xC4 0xC000), 0xC001, 0xFFFE) := by decide
/-- EXC-3 -/
theorem test_unwritten_incA : (after { launch [0x3C] with written := { allWritten with a := false } }).map
    (fun t => (t.fault, t.pc, t.written.a)) = some (some (.unwrittenRead (.reg .a) 0xC000), 0xC001, false) := by decide
/-- EXC-4 -/
theorem test_unwritten_flags_pushAf : (after { launch [0xF5] with sp := 0xFFFE, written := { allWritten with zf := false, nf := false, hf := false, cf := false } }).map
    (fun t => (t.fault.map FaultRecord.code, t.sp, t.highRam)) = some (some 5, 0xFFFE, []) := by decide
/-- ALU8-17 -/
theorem test_unwritten_xorAA : (after { launch [0xAF] with written := { allWritten with a := false } }).map
    (fun t => (t.fault, t.pc)) = some (some (.unwrittenRead (.reg .a) 0xC000), 0xC001) := by decide
/-- 43_alu8.md R284, 60_exceptions.md R407: N and H are written before the read of C faults. -/
theorem test_unwritten_ccf : (after { launch [0x3F] with
      flags := ⟨true, true, true, true⟩, written := { allWritten with nf := false, cf := false } }).map
    (fun t => (t.fault, t.flags, t.written.nf, t.written.cf)) =
      some (some (.unwrittenRead (.flag .c) 0xC000), ⟨true, false, false, true⟩, true, false) := by
  decide

/-- ALU8-26 -/
theorem test_incB_does_not_read_carry : (after { launch [0x04] with b := 0xFF, written := { allWritten with cf := false } }).map
    (fun t => (t.b, t.flags.toByte, t.written.cf, t.fault)) = some (0x00, 0xA0, false, none) := by decide

/-! ## The cartridge (95_test_vectors.md, CART, S6, S8, LD8-17, LD16-4, ROT-27) -/

/-- A fresh type-1 cartridge whose slot k begins with the byte k, for a few k, as image A has. -/
def imageA : Type1 :=
  { constructType1 0 [] with rom := [(0x2000, 0x07), (0x4000, 0x01), (0x7C000, 0x1F), (0x84000, 0x21), (0x1FC000, 0x7F)] }

/-- The launch state with that cartridge in the slot. -/
def withCart (t : Type1) (bytes : List Byte) : State := { launch bytes with cart := .type1 t }

/-- CART-1, CART-2 -/
theorem test_slot_selection :
    imageA.read 0x4000 = 0x01 ∧ ((imageA.write 0x2000 0x00).write 0x4000 0x01).read 0x4000 = 0x21 := by
  decide

/-- CART-4, CART-5 -/
theorem test_mode_ignores_bankset :
    ((imageA.write 0x2000 0x1F).write 0x4000 0x03).read 0x4000 = 0x7F
      ∧ (((imageA.write 0x2000 0x1F).write 0x4000 0x03).write 0x6000 0x01).read 0x4000 = 0x1F := by
  decide

/-- S6 -/
theorem test_register_masks :
    (imageA.write 0x0000 0x10).ramEnable = 0x0 ∧ (imageA.write 0x0000 0x1A).ramEnable = 0xA
      ∧ (imageA.write 0x2000 0x00).romSelect = 0x01 ∧ (imageA.write 0x4000 0x05).banksetSelect = 1
      ∧ (imageA.write 0x6000 0x03).modeSelect = 1 := by decide

/-- CART-7: bank 0 in mode 0, the selected bank in mode 1. -/
theorem test_ram_banks :
    let t := { imageA with ram := [(0x0000, 0x5A), (0x4000, 0x00)] }
    let u := (((t.write 0x0000 0x0A).write 0x6000 0x01).write 0x4000 0x02).write 0x8000 0x22
    (u.write 0x6000 0x00).read 0x8000 = 0x5A ∧ u.read 0x8000 = 0x22 := by decide

/-- CART-8 -/
theorem test_ram_gate :
    let t := { imageA with ramEnable := 0xB }
    t.write 0x8000 0x99 = t ∧ t.read 0x8000 = 0x00 := by decide

/-- The error a construction or a registry ends in, if any. -/
def errorOf {α : Type} : Except FaultRecord α → Option FaultRecord
  | .ok _ => none
  | .error r => some r

/-- S8, EXC-8 -/
theorem test_construction_errors :
    errorOf (constructCartridge .decided 0 (List.replicate 0x147 0x00)) =
        some (.constructionError (.shortBuffer 0x147))
      ∧ errorOf (constructCartridge .decided 0 (List.replicate 0x147 0x00 ++ [0x13])) =
        some (.constructionError (.unsupportedType 0x13))
      ∧ errorOf (buildRegistry [⟨.type1, [0x01]⟩, ⟨.type1, [0x02, 0x01]⟩]) =
        some (.registrationConflict 0x01) := by decide +kernel

/-- LD8-17 -/
theorem test_rom_write_selects : (after { withCart imageA [0xEA, 0x00, 0x20] with a := 0x05 }).map
    (fun t => t.cart) = some (.type1 { imageA with romSelect := 0x05 }) := by decide

/-- LD16-4 -/
theorem test_ldAtA16Sp_wraps : (after { withCart imageA [0x08, 0xFF, 0xFF] with sp := 0x1234 }).map
    (fun t => (t.loadByte 0xFFFF, t.cart)) =
      some (0x34, .type1 { imageA with ramEnable := 0x2 }) := by decide

/-- ROT-27 -/
theorem test_res_on_rom : (after { withCart imageA [0xCB, 0x96] with h := 0x20 }).map
    (fun t => t.cart) = some (.type1 { imageA with romSelect := 0x03 }) := by decide

/-- LD8-19: the one refusal. -/
theorem test_source_echo_is_refused :
    step { launch [0xFA, 0x23, 0xE1] with config := { Config.decided with echo := .sourceArith } } =
      .refused (.echoWindow 0xE123) := rfl

/-! ## An instruction placed for the fetch (the log's entries 13 and 14) -/

theorem test_withFetchWord_runs_it :
    (after (State.reset.withFetchWord 16 0x7706)).map (fun t => (t.b, t.pc)) = some (0x77, 0x0002)
      ∧ (after (State.reset.withFetchWord 16 0xCBC0)).map (fun t => (t.b, t.pc)) =
        some (0x01, 0x0002) := by decide

/-- Log 2: with nothing written a program runs from reset. -/
theorem test_reset_reads_registers :
    (after (State.reset.withFetchWord 8 0x04)).map (fun t => (t.fault, t.pc)) = some (none, 0x0001) := by
  decide

theorem test_decodeTableWord :
    decodeTableWord 8 0x76 = some .halt ∧ decodeTableWord 8 0xCB = some .prefixCb
      ∧ decodeTableWord 24 0xC12321 = some (.ldHlN16 0xC123)
      ∧ decodeTableWord 16 0xCB11 = some .rlC ∧ decodeTableWord 8 0xDD = some (.illegal 0xDD) :=
  ⟨rfl, rfl, rfl, rfl, rfl⟩

/-! ## A state and operands that meet the hypotheses of each statement -/

/-- A running state: TRUE_MIRROR, boot over, pc at work RAM, SP at high RAM, HL = BC = DE = 0xC100. -/
def running (bytes : List Byte) : State :=
  { launch bytes with b := 0xC1, d := 0xC1, h := 0xC1, sp := 0xFFFE }

/-- The running state with another parameter. -/
def sourceEcho : State := { running [] with config := { Config.decided with echo := .sourceArith } }

theorem witness_DecodeReadsBackEveryEncoding :
    (Instr.illegal 0xFD).wf = true ∧ (Instr.prefixCb = .prefixCb → ([] : List Byte) = [])
      ∧ (Instr.ldSpN16 0xFFFF).wf = true := by decide

theorem witness_EncodeGivesBackTheDecodedBytes :
    decode [0x31, 0xFF, 0xFF, 0x00] = .ok (.ldSpN16 0xFFFF, [0x00]) ∧ decode [0xCB] = .ok (.prefixCb, []) :=
  ⟨rfl, rfl⟩

theorem witness_DecoderIsTotal : (0xD3 : Byte) ∈ Spec.illegal ∧ (0xFD : Byte) ∈ Spec.illegal
    ∧ (0x00 : Byte) ∉ Spec.illegal := by decide

theorem witness_FieldsSelectTheOperation : ∃ z z' : Fin 8, z = 6 ∧ z' = 7 := ⟨6, 7, rfl, rfl⟩

theorem witness_FetchReadsTheBytesAtPc :
    let s := running [0x21, 0x00, 0xC1]
    let u := { running [0xC4] with config := { Config.decided with unimplCcall := ⟨true, false, false, false⟩ } }
    s.reaches s.pc = true ∧ s.reaches (s.pc + 1) = true ∧ s.reaches (s.pc + 2) = true
      ∧ operandBytes (s.loadByte s.pc) = 2 ∧ ¬ Spec.unimplemented s.config.unimplCcall (s.loadByte s.pc)
      ∧ operandBytes 0x06 = 1 ∧ operandBytes 0x00 = 0
      ∧ u.reaches u.pc = true ∧ Spec.unimplemented u.config.unimplCcall (u.loadByte u.pc) := by
  refine ⟨by decide, by decide, by decide, by decide, ?_, by decide, by decide, by decide, .inl ?_⟩
  · unfold Spec.unimplemented; decide
  · decide

theorem witness_StepRunsTheDecodedInstruction :
    let s := running [0x06, 0x77]
    s.fault = none ∧ s.stopped = false ∧ (s.halted = false ∨ s.ime = false)
      ∧ (∃ s1, fetchBytes s = .next ([0x06, 0x77], s1))
      ∧ ¬ Spec.unimplemented s.config.unimplCcall 0x06 ∧ decode [0x06, 0x77] = .ok (.ldBN8 0x77, []) := by
  refine ⟨by decide, by decide, by decide, ⟨_, rfl⟩, ?_, rfl⟩
  unfold Spec.unimplemented; decide

theorem witness_LatchedAndParkedStepsChangeNothing :
    { running [] with fault := some (.illegalInstruction 0xD3 0xC000) }.fault =
        some (.illegalInstruction 0xD3 0xC000)
      ∧ { running [] with stopped := true }.fault = none
      ∧ ({ running [] with halted := true, ime := true }.halted = true
        ∧ { running [] with halted := true, ime := true }.ime = true) := by decide

theorem witness_IllegalOpcodeIsLatched :
    let s := running [0xD3]
    let u := { running [0xDC] with config := { Config.decided with unimplCcall := ⟨false, false, false, true⟩ } }
    (s.fault = none ∧ s.stopped = false ∧ s.halted = false ∧ s.reaches s.pc = true
      ∧ s.loadByte s.pc = 0xD3 ∧ (0xD3 : Byte) ∈ Spec.illegal)
    ∧ u.fault = none ∧ u.stopped = false ∧ u.halted = false ∧ u.reaches u.pc = true
      ∧ u.loadByte u.pc = 0xDC ∧ Spec.unimplemented u.config.unimplCcall 0xDC :=
  ⟨by decide, by decide, by decide, by decide, by decide, by decide,
    .inr (.inr (.inr ⟨rfl, rfl⟩))⟩

/-- In work RAM, its echo, high RAM and the cartridge, and at a lent device that answers 0xCB twice. -/
theorem witness_HaltedPrefixRunsSetOneE :
    let s := { running [0xCB] with halted := true }
    let h := { s with highRam := [(0x7F, 0xCB)] }
    let c := { s with cart := .type1 { imageA with rom := [(0, 0xCB)] } }
    let u := { s with pc := 0x8000, ports := { s.ports with videoRam := ⟨[(0, 0xCB)], false⟩ } }
    (s.fault = none ∧ s.stopped = false ∧ s.halted = true ∧ s.ime = false ∧ s.reaches s.pc = true
      ∧ s.loadByte s.pc = 0xCB ∧ (s.target s.pc).1 = .workRam ∧ Spec.canRead s [.reg .e])
    ∧ u.reaches u.pc = true ∧ u.loadByte u.pc = 0xCB ∧ (u.target u.pc).1 = .lent .videoRam
      ∧ (u.afterLoad u.pc).loadByte u.pc = 0xCB
      ∧ s.loadByte 0xE000 = 0xCB ∧ h.loadByte 0xFFFF = 0xCB ∧ c.loadByte 0x0000 = 0xCB := by
  refine ⟨⟨by decide, by decide, by decide, by decide, by decide, by decide, by decide, .inr ?_⟩,
    by decide, by decide, by decide, by decide, by decide, by decide, by decide⟩
  simp only [List.mem_singleton, forall_eq]; decide

theorem witness_SystemInstructionEffects :
    (running []).fault = none ∧ { running [] with ime := true }.ime = true := by decide

theorem witness_PrefixSelectsTheExtendedTable :
    (running [0x00]).reaches (running [0x00]).pc = true ∧ (running []).config.echo = .trueMirror := by
  decide

/-- The statements that say `Spec.runs` ask that an instruction's reads be written: they are here. -/
theorem everythingReads (s : State) (names : List RegName) (h : s.written = allWritten) :
    Spec.canRead s names := by
  refine .inr fun n _ => ?_
  rcases n with r | _ | f <;> (try cases r) <;> (try cases f) <;> simp [Spec.isWritten, h, allWritten]

theorem witness_runs (i : Instr) : Spec.canRead (running []) (Spec.reads i (running [])) :=
  everythingReads _ _ rfl

theorem witness_LdRegistersHlAndImmediate :
    (running []).reaches (Spec.join (running []).h (running []).l) = true := by decide

theorem witness_LdAccumulatorThroughPairs :
    (running []).reaches (Spec.join (running []).b (running []).c) = true
      ∧ (running []).reaches (Spec.join (running []).d (running []).e) = true
      ∧ sourceEcho.reaches (Spec.join sourceEcho.h sourceEcho.l) = true := by decide

theorem witness_LdHighPageAndAbsolute :
    (0x7F : Byte).toNat ≤ 0x7F ∧ 0x80 ≤ (0x80 : Byte).toNat ∧
    (running []).reaches 0xFFFF = true ∧ sourceEcho.reaches 0xDFFF = true ∧ sourceEcho.reaches 0xF000 = true := by
  decide

theorem witness_LdStoresSpInTwoBytes :
    (running []).reaches 0xFFFF = true ∧ (running []).reaches (0xFFFF + 1) = true := by decide

theorem witness_PushStoresThePair :
    (running []).reaches ((running []).sp - 1) = true ∧ (running []).reaches ((running []).sp - 2) = true := by
  decide

theorem witness_PopLoadsThePair :
    (running []).reaches (running []).sp = true ∧ (running []).reaches ((running []).sp + 1) = true := by
  decide

theorem witness_RamStackGivesBackWhatWasPushed :
    Spec.inRam ((running []).sp - 1) ∧ Spec.inRam ((running []).sp - 2)
      ∧ (running []).reaches ((running []).sp - 1) = true
      ∧ (running []).reaches ((running []).sp - 2) = true
      ∧ Spec.canRead (running []) (Spec.reads (Instr.pushPair .af) (running []))
      ∧ Spec.canRead (running []) [.sp] ∧ Spec.inRam 0xE000 ∧ Spec.inRam 0xFDFF :=
  ⟨.inr (by decide), .inr (by decide), by decide, by decide, everythingReads _ _ rfl,
    everythingReads _ _ rfl, .inl (by decide), .inl (by decide)⟩

/-- For AddAndAdcResults, SubSbcAndCpResults, LogicResults, IncAndDecResults,
ExtendedRotatesAndShifts and BitResSetResults. -/
theorem witness_AluOperands : (running []).r8Reaches (.reg .a) = true ∧ (running []).r8Reaches .atHl = true
    ∧ sourceEcho.r8Reaches .atHl = true := by decide

theorem witness_DaaCorrectsDecimalSumAndDifference :
    let s := { running [] with a := 0x47 }
    Spec.canRead s [.reg .a] ∧ (28 < 100 ∧ 47 < 100) ∧ s.a = BitVec.ofNat 8 (47 / 10 * 16 + 47 % 10)
      ∧ (∃ t u, exec (.addAN8 (BitVec.ofNat 8 (28 / 10 * 16 + 28 % 10))) s = .next t ∧ exec .daa t = .next u)
      ∧ ∃ t u, exec (.subAN8 (BitVec.ofNat 8 (28 / 10 * 16 + 28 % 10))) s = .next t ∧ exec .daa t = .next u :=
  ⟨everythingReads _ _ rfl, by decide, by decide, ⟨_, _, rfl, rfl⟩, _, _, rfl, rfl⟩

theorem witness_CallsAndRestarts :
    let s := running []
    s.reaches (s.sp - 1) = true ∧ s.reaches (s.sp - 2) = true ∧ s.config.unimplCcall.nz = false
      ∧ s.config.unimplCcall.z = false ∧ s.config.unimplCcall.nc = false
      ∧ s.config.unimplCcall.c = false ∧ s.flags.z = false ∧ s.flags.c = false
      ∧ sourceEcho.flags.z = false ∧ sourceEcho.config.unimplCcall.z = false
      ∧ { sourceEcho with sp := 0xE002 }.reaches 0xE001 = false := by decide

theorem witness_Returns :
    (running []).reaches (running []).sp = true ∧ (running []).reaches ((running []).sp + 1) = true
      ∧ (running []).flags.z = false ∧ { sourceEcho with sp := 0xE000 }.reaches 0xE000 = false := by
  decide

/-- An unwritten A before and after the read of the byte at HL, and while halted. -/
theorem witness_UnwrittenReadIsLatched :
    let s := { running [] with written := { allWritten with a := false } }
    s.config.resetRegs = .noValue ∧ s.reaches (Spec.join s.h s.l) = true
      ∧ Spec.reads .incA s = [] ++ .reg .a :: [] ∧ Spec.isWritten s (.reg .a) = false
      ∧ Spec.reads .adcAAtHl s = [.reg .h, .reg .l] ++ .reg .a :: [.flag .c]
      ∧ Spec.readsMemoryFirst (Spec.opcode .adcAAtHl) = true
      ∧ Spec.isWritten s (.reg .h) = true ∧ Spec.isWritten s (.reg .l) = true
      ∧ Spec.reads .ccf s = [] ++ .flag .c :: []
      ∧ Spec.isWritten { s with written := .nothing } (.flag .c) = false := by decide

/-- Each clause of the table at both ends of its range. -/
theorem witness_TranslationTable :
    (∀ b : Bool, translateAddress .trueMirror b 0x0100 = (.cartridge, 0x0100)
      ∧ translateAddress .trueMirror b 0x7FFF = (.cartridge, 0x7FFF)
      ∧ translateAddress .trueMirror b 0x8000 = (.lent .videoRam, 0x0000)
      ∧ translateAddress .trueMirror b 0x9FFF = (.lent .videoRam, 0x1FFF)
      ∧ translateAddress .trueMirror b 0xA000 = (.cartridge, 0x8000)
      ∧ translateAddress .trueMirror b 0xBFFF = (.cartridge, 0x9FFF)
      ∧ translateAddress .trueMirror b 0xC000 = (.workRam, 0x0000)
      ∧ translateAddress .trueMirror b 0xDFFF = (.workRam, 0x1FFF)
      ∧ translateAddress .trueMirror b 0xE000 = (.workRam, 0x0000)
      ∧ translateAddress .trueMirror b 0xFDFF = (.workRam, 0x1DFF)
      ∧ translateAddress .sourceArith b 0xF000 = (.workRam, 0x000)
      ∧ translateAddress .sourceArith b 0xFDFF = (.workRam, 0xDFF)
      ∧ (translateAddress .sourceArith b 0xE000).1 = .noMeaning
      ∧ (translateAddress .sourceArith b 0xEFFF).1 = .noMeaning
      ∧ translateAddress .trueMirror b 0xFE00 = (.lent .oam, 0x00)
      ∧ translateAddress .trueMirror b 0xFE9F = (.lent .oam, 0x9F)
      ∧ (translateAddress .trueMirror b 0xFEA0).1 = .dummy
      ∧ (translateAddress .trueMirror b 0xFEFF).1 = .dummy
      ∧ translateAddress .trueMirror b 0xFF00 = (.lent .io, 0x00)
      ∧ translateAddress .trueMirror b 0xFF7F = (.lent .io, 0x7F)
      ∧ translateAddress .trueMirror b 0xFF80 = (.highRam, 0x00)
      ∧ translateAddress .trueMirror b 0xFFFF = (.highRam, 0x7F))
    ∧ translateAddress .trueMirror true 0x00FF = (.lent .bootOverlay, 0xFF)
    ∧ translateAddress .trueMirror false 0x00FF = (.cartridge, 0x00FF) := by decide

theorem witness_AccessOfHundredClearsBoot :
    (∃ t, memRead 0x0100 State.reset = .next (0x00, t) ∧ t.bootActive = false)
      ∧ (∃ t, memWrite 0x00FF 0x12 State.reset = .next t ∧ t.bootActive = true)
      ∧ ∃ t, step { running [0x00] with bootActive := true } = .next t ∧ t.bootActive = true :=
  ⟨⟨_, rfl, rfl⟩, ⟨_, rfl, rfl⟩, _, rfl, rfl⟩

theorem witness_OnlyTheSourceEchoIsRefused :
    sourceEcho.config.echo = .sourceArith ∧ 0xE000 ≤ (0xEFFF : Word).toNat ∧ (0xEFFF : Word).toNat ≤ 0xEFFF
      ∧ (running []).config.echo = .trueMirror ∧ (0xDFFF : Word).toNat < 0xE000
      ∧ 0xEFFF < (0xF000 : Word).toNat := by decide

theorem witness_RamReadsBackTheWrite :
    (running []).config.echo = .trueMirror ∧ sourceEcho.config.echo = .sourceArith
      ∧ Spec.inRam 0xC000 ∧ Spec.inRam 0xDFFF ∧ Spec.inRam 0xF000 ∧ Spec.inRam 0xFDFF ∧ Spec.inRam 0xFF80
      ∧ (0xDFFF : Word).toNat < 0xE000 ∧ 0xEFFF < (0xF000 : Word).toNat
      ∧ 0xE000 ≤ (0xE000 : Word).toNat ∧ (0xFDFF : Word).toNat ≤ 0xFDFF
      ∧ 0xF000 ≤ (0xF000 : Word).toNat :=
  ⟨rfl, rfl, .inl (by decide), .inl (by decide), .inl (by decide), .inl (by decide), .inr (by decide),
    by decide, by decide, by decide, by decide, by decide⟩

theorem witness_StoreChangesOnlyItsByte :
    0x8000 ≤ (0xC000 : Word).toNat ∧ (∃ t, memWrite 0xC000 0x12 (running []) = .next t)
      ∧ (running []).target 0xC001 ≠ (running []).target 0xC000 := ⟨by decide, ⟨_, rfl⟩, by decide⟩

theorem witness_RomWritesSetABankRegister :
    (withCart imageA []).cart = .type1 imageA
      ∧ (∃ t, memWrite 0x1FFF 0x0A (withCart imageA []) = .next t
        ∧ t.cart = .type1 { imageA with ramEnable := 0xA })
      ∧ (∃ t, memWrite 0x2000 0x20 (withCart imageA []) = .next t
        ∧ t.cart = .type1 { imageA with romSelect := 0x01 })
      ∧ (∃ t, memWrite 0x4000 0xFF (withCart imageA []) = .next t
        ∧ t.cart = .type1 { imageA with banksetSelect := 3 })
      ∧ ∃ t, memWrite 0x7FFF 0xFF (withCart imageA []) = .next t
        ∧ t.cart = .type1 { imageA with modeSelect := 1 } :=
  ⟨rfl, ⟨_, rfl, rfl⟩, ⟨_, rfl, rfl⟩, ⟨_, rfl, rfl⟩, _, rfl, rfl⟩

theorem witness_Type1ReadWindows :
    (withCart imageA []).cart = .type1 imageA ∧ (withCart imageA []).bootActive = false
      ∧ (0x3FFF : Word).toNat ≤ 0x3FFF ∧ 0x4000 ≤ (0x4000 : Word).toNat ∧ 0xA000 ≤ (0xA000 : Word).toNat
      ∧ (0xBFFF : Word).toNat ≤ 0xBFFF ∧ imageA.ramEnable ≠ 0xA
      ∧ { imageA with ramEnable := 0xA }.ramEnable = 0xA ∧ imageA.romSelect ≠ 0 := by decide

theorem witness_ExternalRamIsGated :
    (withCart imageA []).cart = .type1 imageA ∧ imageA.ramEnable ≠ 0xA
      ∧ (∃ t, memWrite 0xA000 0x99 (withCart imageA []) = .next t)
      ∧ (∃ t, memWrite 0xBFFF 0x99 (withCart { imageA with ramEnable := 0xA } []) = .next t
        ∧ t.loadByte 0xBFFF = 0x99) :=
  ⟨rfl, by decide, ⟨_, rfl⟩, _, rfl, by decide⟩

theorem witness_DummiesReadZero :
    (0xFEA0 ≤ (0xFEFF : Word).toNat ∧ (0xFEFF : Word).toNat ≤ 0xFEFF)
      ∧ ((running []).target 0x0100).1 = .cartridge ∧ (running []).cart = .dummy := by decide

theorem witness_LentPorts :
    (running []).target 0xFF7F = (.lent .io, 0x7F) ∧ State.reset.target 0x0000 = (.lent .bootOverlay, 0)
      ∧ { LentDevice.unknown with promised := [(0x7F, 0x12)] }.promised.read 0x7F = some 0x12 := by decide

theorem witness_EveryInstructionCompletes :
    (running []).config.echo = .trueMirror ∧ (running []).fault = none := by decide

theorem witness_StepKeepsTheForm :
    (running [0x34]).wf = true ∧ ∃ t, step (running [0x34]) = .next t := ⟨by decide, _, rfl⟩

theorem witness_OnlyResetUndoesStopAndHalt :
    Spec.isWritten (running [0x00]) .sp = true
      ∧ (∃ t, step { running [] with stopped := true } = .next t)
      ∧ ∃ t, step { running [0x00] with halted := true } = .next t :=
  ⟨by decide, ⟨_, rfl⟩, _, rfl⟩

theorem witness_StepKeepsRomAndParameters :
    (∃ t, step (withCart imageA [0xEA, 0x00, 0x20]) = .next t)
      ∧ (withCart imageA [0xEA, 0x00, 0x20]).cart = .type1 imageA
      ∧ (∃ t, step (running [0x00]) = .next t) ∧ (running [0x00]).cart = .dummy :=
  ⟨⟨_, rfl⟩, rfl, ⟨_, rfl⟩, rfl⟩

theorem witness_StepLatchesOnlyTwoFaults :
    (∃ t, step (running [0xD3]) = .next t ∧ t.fault = some (.illegalInstruction 0xD3 0xC000))
      ∧ ∃ t, step { running [0xCB, 0x3F] with written := { allWritten with a := false } } = .next t
        ∧ t.fault = some (.unwrittenRead (.reg .a) 0xC000) :=
  ⟨⟨_, rfl, rfl⟩, _, rfl, rfl⟩

theorem witness_ControlStateFrame :
    (∃ t, exec .ei (running []) = .next t ∧ t.ime ≠ (running []).ime)
      ∧ (∃ t, exec .stop (running []) = .next t ∧ t.stopped ≠ (running []).stopped)
      ∧ (∃ t, exec .halt (running []) = .next t ∧ t.halted ≠ (running []).halted)
      ∧ (∃ t, exec (.illegal 0xD3) (running []) = .next t ∧ t.fault ≠ (running []).fault)
      ∧ ∃ t, exec .incA { running [] with written := .nothing } = .next t
        ∧ t.fault ≠ (running []).fault :=
  ⟨⟨_, rfl, by decide⟩, ⟨_, rfl, by decide⟩, ⟨_, rfl, by decide⟩, ⟨_, rfl, by decide⟩, _, rfl, by decide⟩

theorem witness_RegisterFrame :
    (∃ t, exec .incB (running []) = .next t) ∧ Reg.c ∉ Spec.writtenRegs (Spec.opcode .incB)
      ∧ Spec.writesSp (Spec.opcode .incB) = false := ⟨⟨_, rfl⟩, by decide, by decide⟩

theorem witness_FlagFrame :
    (Instr.scf).wf = true ∧ Instr.scf ≠ .prefixCb ∧ (∃ t, exec .scf (running []) = .next t)
      ∧ Spec.canRead (running []) (Spec.reads .scf (running []))
      ∧ (∃ t, exec .incA { running [] with written := .nothing } = .next t)
      ∧ ¬ Spec.canRead { running [] with written := .nothing } (Spec.reads .incA (running [])) := by
  refine ⟨by decide, by decide, ⟨_, rfl⟩, everythingReads _ _ rfl, ⟨_, rfl⟩, ?_⟩
  rintro (h | h)
  · revert h; decide
  · exact absurd (h (.reg .a) (by decide)) (by decide)

theorem witness_MemoryFrame :
    Instr.pushBc ≠ .prefixCb ∧ (∃ t, exec .pushBc (running []) = .next t)
      ∧ (∀ l, ((running []).target 0xC000).1 ≠ .lent l)
      ∧ (∀ x ∈ Spec.storesTo .pushBc (running []), (running []).target 0xC000 ≠ (running []).target x
        ∧ (((running []).target 0xC000).1 = .cartridge → 0x8000 ≤ x.toNat))
      ∧ (∀ x ∈ Spec.storesTo .pushBc (running []), ∀ l, ((running []).target x).1 ≠ .lent l)
      ∧ ∀ x ∈ Spec.storesTo .pushBc (running []),
        0x8000 ≤ x.toNat ∧ ((running []).target x).1 ≠ .cartridge := by
  have h : Spec.storesTo .pushBc (running []) = [0xFFFD, 0xFFFC] := rfl
  rw [h]
  have hy : (running []).target 0xC000#16 = (.workRam, 0) := rfl
  have h1 : (running []).target 0xFFFD#16 = (.highRam, 0x7D) := rfl
  have h2 : (running []).target 0xFFFC#16 = (.highRam, 0x7C) := rfl
  refine ⟨by decide, ⟨_, rfl⟩, ?_, ?_, ?_, ?_⟩ <;> simp [hy, h1, h2]

theorem witness_ConstructionOutcomes :
    (List.replicate 0x147 (0x00 : Byte) ≠ [] ∧ (List.replicate 0x147 (0x00 : Byte)).length ≤ 0x147)
      ∧ 0x147 < (List.replicate 0x147 (0x00 : Byte) ++ [0x13]).length
      ∧ (List.replicate 0x147 (0x00 : Byte) ++ [0x13]).getD 0x147 0 ∉ Config.decided.type1Ids
      ∧ (List.replicate 0x147 (0x00 : Byte) ++ [0x01]).getD 0x147 0 ∈ Config.decided.type1Ids := by decide +kernel

theorem witness_RegistryRefusesASharedIdentifier :
    buildRegistry [⟨.type1, [0x01]⟩, ⟨.type1, [0x01]⟩] = .error (.registrationConflict 0x01)
      ∧ buildRegistry (registryClaims .decided) = .ok [(0x01, .type1)] := ⟨rfl, rfl⟩

theorem witness_HostOperations :
    ((running []).target 0x0100).1 = .cartridge ∧ ((running []).target 0xBFFF).1 = .cartridge := by decide

theorem witness_InvalidAddressesAreFaults :
    0xFFFF < 0x10000 ∧ 0xFFFF ≤ 0xFFFF ∧ 0x9FFF < 0xA000 ∧ 0x9FFF ≤ 0x9FFF := by decide

end Sys2Proof.Tests
end

/-! # The stack in RAM (00_scope.md R14): the family of 00_scope.md

A read of RAM returns the last write, two neighbouring RAM addresses never share a byte, and so `Pop16`
after `Push16` gives back the word; POP after PUSH and RET after CALL follow. -/

namespace Sys2Proof.Machine

variable {s : State}

/-! ## Written bits: `Spec.canRead` is that no read faults (60_exceptions.md R418) -/

theorem isWritten_eq_get (n : RegName) : Spec.isWritten s n = s.written.get n := by
  rcases n with r | _ | f
  · cases r <;> rfl
  · rfl
  · cases f <;> rfl

theorem canRead_iff {names : List RegName} :
    Spec.canRead s names ↔ s.firstUnwritten names = none := by
  simp only [Spec.canRead, isWritten_eq_get, State.firstUnwritten_eq_none_iff]

theorem reads_pushPair (p : StackPair) :
    Spec.reads (Instr.pushPair p) s = stackPairReads p ++ [.sp] := by cases p <;> rfl

/-! ## RAM behind the Bus (20_memory.md R66, R67, R71, R76) -/

/-- The device is one of the two RAMs. -/
def Device.isRam (d : Device) : Prop := d = .workRam ∨ d = .highRam

theorem Device.isRam.ne_lent {d : Device} (h : d.isRam) (l : Lent) : d ≠ .lent l := by
  rcases h with rfl | rfl <;> exact nofun

theorem Device.isRam.ne_cartridge {d : Device} (h : d.isRam) : d ≠ .cartridge := by
  rcases h with rfl | rfl <;> exact nofun

theorem le_of_inRam {x : Word} (hx : Spec.inRam x) : 0xC000 ≤ x.toNat := by
  unfold Spec.inRam at hx; omega

theorem State.target_workRam {x : Word} (h : 0xC000 ≤ x.toNat) (h' : x.toNat < 0xE000) :
    s.target x = (.workRam, x.toNat - 0xC000) := by
  simp (disch := omega) only [State.target, translateAddress, if_neg, if_pos]

theorem State.target_echo {x : Word} (h : 0xE000 ≤ x.toNat) (h' : x.toNat < 0xFE00) :
    s.target x = translateEcho s.config.echo x.toNat := by
  simp (disch := omega) only [State.target, translateAddress, if_neg, if_pos]

theorem State.target_highRam {x : Word} (h : 0xFF80 ≤ x.toNat) :
    s.target x = (.highRam, x.toNat - 0xFF80) := by
  simp (disch := omega) only [State.target, translateAddress, if_neg]

/-- A RAM address is in one of three windows of the Bus (20_memory.md R61). -/
theorem inRam_cases {x : Word} (hx : Spec.inRam x) :
    (0xC000 ≤ x.toNat ∧ x.toNat < 0xE000) ∨ (0xE000 ≤ x.toNat ∧ x.toNat < 0xFE00)
      ∨ 0xFF80 ≤ x.toNat := by
  unfold Spec.inRam at hx; omega

/-- Where the echo has a meaning it is work RAM, from a multiple of 0x80 (20_memory.md R67). -/
theorem translateEcho_workRam {m : EchoMode} {n : Nat} (hn : 0xE000 ≤ n)
    (h : (translateEcho m n).1 ≠ .noMeaning) :
    (translateEcho m n).1 = .workRam ∧ (translateEcho m n).2 % 0x80 = n % 0x80 := by
  cases m with
  | trueMirror => exact ⟨rfl, by simp only [translateEcho]; omega⟩
  | sourceArith =>
    by_cases hlt : n < 0xF000
    · simp [translateEcho, hlt] at h
    · simp only [translateEcho, hlt, if_false, true_and]; omega

/-- A RAM address with a meaning reaches work RAM or high RAM, and each window starts at a multiple of
0x80. -/
theorem State.target_inRam {x : Word} (hx : Spec.inRam x) (hr : s.reaches x = true) :
    (s.target x).1.isRam ∧ (s.target x).2 % 0x80 = x.toNat % 0x80 := by
  rw [State.reaches, decide_eq_true_eq] at hr
  rcases inRam_cases hx with ⟨h, h'⟩ | ⟨h, h'⟩ | h
  · rw [State.target_workRam h h']
    exact ⟨.inl rfl, by simp only; omega⟩
  · rw [State.target_echo h h'] at hr ⊢
    exact (translateEcho_workRam h hr).imp_left .inl
  · rw [State.target_highRam h]
    exact ⟨.inr rfl, by simp only; omega⟩

/-- Two neighbouring RAM addresses with a meaning reach two bytes: their offsets differ modulo 0x80, also
across the boundaries of the windows. -/
theorem State.target_pred_ne {x : Word} (hx : Spec.inRam x) (hy : Spec.inRam (x - 1))
    (hrx : s.reaches x = true) (hry : s.reaches (x - 1) = true) : s.target (x - 1) ≠ s.target x := by
  have hle := le_of_inRam hx
  have hsub : (x - 1).toNat = x.toNat - 1 := by bv_omega
  have hoff := (State.target_inRam hy hry).2
  intro he
  rw [he, (State.target_inRam hx hrx).2, hsub] at hoff
  omega

@[simp] theorem State.deviceByte_touch (x : Word) (d : Device) (n : Nat) :
    (s.touch x).deviceByte d n = s.deviceByte d n := by cases d <;> rfl

theorem State.deviceByte_deviceWrite_same {d : Device} (hd : d.isRam) (n : Nat) (v : Byte) :
    (s.deviceWrite d n v).deviceByte d n = v := by
  rcases hd with rfl | rfl
  · simp [State.deviceByte, State.deviceWrite, State.workRamByte]
  · simp [State.deviceByte, State.deviceWrite, State.highRamByte]

theorem State.target_store_inRam {y : Word} (hy : Spec.inRam y) (x : Word) (v : Byte) :
    (s.store x v).target y = s.target y :=
  State.target_of_le (State.store_config ..) (by have := le_of_inRam hy; omega)

/-- RAM reads back the write (20_memory.md R76). -/
theorem State.loadByte_store_same {x : Word} (hx : Spec.inRam x) (hr : s.reaches x = true) (v : Byte) :
    (s.store x v).loadByte x = v := by
  rw [State.loadByte, State.target_store_inRam hx]
  exact State.deviceByte_deviceWrite_same (State.target_inRam hx hr).1 _ v

/-- A store to another byte leaves a byte of RAM (20_memory.md R102). -/
theorem State.loadByte_store_inRam {x y : Word} (hy : Spec.inRam y) (hr : s.reaches y = true)
    (hne : s.target y ≠ s.target x) (v : Byte) : (s.store x v).loadByte y = s.loadByte y := by
  obtain ⟨hram, -⟩ := State.target_inRam hy hr
  rcases htx : s.target x with ⟨d, n⟩
  rcases hty : s.target y with ⟨e, k⟩
  rw [hty] at hram
  rw [htx, hty] at hne
  rw [State.loadByte_eq _ ((State.target_store_inRam hy x v).trans hty), State.store_eq s htx,
    State.loadByte_eq s hty, State.deviceByte_deviceWrite _ v hne hram.ne_lent
      (absurd · hram.ne_cartridge), State.deviceByte_touch]

/-- A read leaves every byte of RAM (20_memory.md R102). -/
theorem State.loadByte_afterLoad_inRam {y : Word} (hy : Spec.inRam y) (hr : s.reaches y = true)
    (x : Word) : (s.afterLoad x).loadByte y = s.loadByte y := by
  have htarget : (s.afterLoad x).target y = s.target y :=
    State.target_of_le (State.afterLoad_config ..) (by have := le_of_inRam hy; omega)
  rw [State.loadByte, htarget, State.deviceByte_afterLoad s x _ (State.target_inRam hy hr).1.ne_lent,
    State.loadByte]

/-! ## Words, bytes and flags taken apart and put together -/

@[simp] theorem wordOf_highByte_lowByte (v : Word) : wordOf (highByte v) (lowByte v) = v :=
  BitVec.extractLsb'_append_extractLsb'_eq_extractLsb' (h := rfl) |>.trans BitVec.extractLsb'_eq_self

@[simp] theorem highByte_wordOf (h l : Byte) : highByte (wordOf h l) = h :=
  BitVec.extractLsb'_append_eq_left

@[simp] theorem lowByte_wordOf (h l : Byte) : lowByte (wordOf h l) = l :=
  BitVec.extractLsb'_append_eq_right

/-- F's low nibble holds nothing: the flags come back from the byte (10_state.md R22). -/
@[simp] theorem Flags.ofByte_toByte (f : Flags) : Flags.ofByte f.toByte = f := by
  obtain ⟨z, n, h, c⟩ := f
  revert z n h c
  decide

/-! ## `Push16` and `Pop16` (00_scope.md R14) -/

section Pushed

variable (v : Word)

@[simp] theorem State.pushed_sp : (s.pushed v).sp = s.sp - 1 - 1 := by simp [State.pushed]
@[simp] theorem State.pushed_flags : (s.pushed v).flags = s.flags := by simp [State.pushed]
@[simp] theorem State.pushed_config : (s.pushed v).config = s.config := by simp [State.pushed]
@[simp] theorem State.pushed_written : (s.pushed v).written = (s.written.mark .sp).mark .sp := by
  simp [State.pushed]
@[simp] theorem State.getReg_pushed (r : Reg) : (s.pushed v).getReg r = s.getReg r := by
  simp [State.pushed]
@[simp] theorem State.reaches_pushed (x : Word) : (s.pushed v).reaches x = s.reaches x :=
  State.reaches_congr (State.pushed_config v) x

/-- A push writes SP, so SP can be read after it. -/
@[simp] theorem State.firstUnwritten_pushed_sp : (s.pushed v).firstUnwritten [.sp] = none :=
  State.firstUnwritten_eq_none_iff.2 (.inr (by simp))

end Pushed

@[simp] theorem State.popped_sp : s.popped.sp = s.sp + 1 + 1 := rfl
@[simp] theorem State.popped_flags : s.popped.flags = s.flags := by simp [State.popped]
@[simp] theorem State.getReg_popped (r : Reg) : s.popped.getReg r = s.getReg r := by
  simp [State.popped]

@[simp] theorem State.setStackPair_sp (p : StackPair) (v : Word) : (s.setStackPair p v).sp = s.sp := by
  cases p <;> simp [State.setStackPair]

/-! ### A pair as its two registers (00_scope.md R11) -/

theorem State.getReg_setBc (v : Word) (r : Reg) : (s.setBc v).getReg r =
    if r = .c then lowByte v else if r = .b then highByte v else s.getReg r := by cases r <;> rfl
theorem State.getReg_setDe (v : Word) (r : Reg) : (s.setDe v).getReg r =
    if r = .e then lowByte v else if r = .d then highByte v else s.getReg r := by cases r <;> rfl
theorem State.getReg_setHl (v : Word) (r : Reg) : (s.setHl v).getReg r =
    if r = .l then lowByte v else if r = .h then highByte v else s.getReg r := by cases r <;> rfl

/-- A pair's word written over the same registers changes no register. -/
theorem State.getReg_setStackPair_getStackPair {t : State} (h : ∀ r, t.getReg r = s.getReg r)
    (p : StackPair) (r : Reg) : (t.setStackPair p (s.getStackPair p)).getReg r = s.getReg r := by
  cases p <;> simp only [State.setStackPair, State.getStackPair]
  case bc =>
    rw [State.getReg_setBc, State.bc, highByte_wordOf, lowByte_wordOf, h]
    split_ifs with hc hb <;> simp [*, State.getReg]
  case de =>
    rw [State.getReg_setDe, State.de, highByte_wordOf, lowByte_wordOf, h]
    split_ifs with he hd <;> simp [*, State.getReg]
  case hl =>
    rw [State.getReg_setHl, State.hl, highByte_wordOf, lowByte_wordOf, h]
    split_ifs with hl hh <;> simp [*, State.getReg]
  case af =>
    rw [State.getReg_setFlags, State.getReg_setReg, highByte_wordOf, h]
    split_ifs with ha <;> simp [*, State.getReg]

/-- AF's word brings the flags back; the other pairs write none (10_state.md R22). -/
theorem State.flags_setStackPair_getStackPair {t : State} (h : t.flags = s.flags) (p : StackPair) :
    (t.setStackPair p (s.getStackPair p)).flags = s.flags := by
  cases p <;> simp [State.setStackPair, State.getStackPair, h]

/-! ## Pop after push -/

/-- Both bytes below SP are RAM with a meaning (20_memory.md R67). -/
structure State.stackInRam (s : State) : Prop where
  high : Spec.inRam (s.sp - 1)
  low : Spec.inRam (s.sp - 1 - 1)
  reachesHigh : s.reaches (s.sp - 1) = true
  reachesLow : s.reaches (s.sp - 1 - 1) = true

/-- What `Push16` writes to RAM is what `Pop16` returns: the second store is of another byte
(20_memory.md R76). -/
theorem State.poppedWord_pushed (hs : s.stackInRam) (v : Word) : (s.pushed v).poppedWord = v := by
  obtain ⟨hhi, hlo, hrhi, hrlo⟩ := hs
  have hlow : (s.pushed v).loadByte (s.sp - 1 - 1) = lowByte v :=
    State.loadByte_store_same hlo (by simpa using hrlo) _
  have hhigh : (s.pushed v).loadByte (s.sp - 1) = highByte v := by
    have hne : s.target (s.sp - 1) ≠ s.target (s.sp - 1 - 1) :=
      (State.target_pred_ne hhi hlo hrhi hrlo).symm
    rw [State.pushed, State.loadByte_store_inRam hhi (by simpa using hrhi), State.loadByte_setSp,
      State.loadByte_store_same hhi (by simpa using hrhi)]
    simpa only [State.target_setSp, State.target_store_inRam hhi, State.target_store_inRam hlo] using hne
  rw [State.poppedWord, State.pushed_sp, State.loadByte_setSp, BitVec.sub_add_cancel,
    State.loadByte_afterLoad_inRam hhi (by simpa using hrhi), hhigh, hlow, wordOf_highByte_lowByte]

/-- `Pop16` after `Push16` leaves SP where it was. -/
theorem State.popped_pushed_sp (v : Word) : (s.pushed v).popped.sp = s.sp := by
  rw [State.popped_sp, State.pushed_sp, BitVec.sub_add_cancel, BitVec.sub_add_cancel]

/-- After a push in RAM both bytes at SP have a meaning. -/
theorem State.reaches_pushed_stack (hs : s.stackInRam) (v : Word) :
    (s.pushed v).reaches (s.pushed v).sp = true
      ∧ (s.pushed v).reaches ((s.pushed v).sp + 1) = true := by
  rw [State.pushed_sp, BitVec.sub_add_cancel, State.reaches_pushed, State.reaches_pushed]
  exact ⟨hs.reachesLow, hs.reachesHigh⟩

theorem popPair_pushed (hs : s.stackInRam) (p : StackPair) (v : Word) :
    popPair p (s.pushed v) = .next ((s.pushed v).popped.setStackPair p v) := by
  rw [popPair_next_iff, State.poppedWord_pushed hs]
  exact .inr ⟨State.firstUnwritten_pushed_sp v, State.reaches_pushed_stack hs v, rfl⟩

/-- A read of the Bus and a jump commute. -/
theorem State.afterLoad_setPc (x y : Word) : (s.setPc x).afterLoad y = (s.afterLoad y).setPc x := by
  rw [State.afterLoad, State.afterLoad, State.target_setPc]
  cases (s.target y).1 <;> rfl

theorem State.poppedWord_setPc (x : Word) : (s.setPc x).poppedWord = s.poppedWord := by
  simp [State.poppedWord, State.afterLoad_setPc]

theorem State.setPc_popped_setPc (v x : Word) : (s.setPc x).popped.setPc v = s.popped.setPc v := by
  have hsetSp (t : State) (w : Word) : (t.setPc x).setSp w = (t.setSp w).setPc x := rfl
  have hsetPc (t : State) : (t.setPc x).setPc v = t.setPc v := rfl
  simp only [State.popped, State.setPc_sp, State.afterLoad_setPc, hsetSp, hsetPc]

/-- RET after a jump that follows a push in RAM goes on at the word pushed (46_control_transfer.md R347). -/
theorem ret_setPc_pushed (hs : s.stackInRam) (v x : Word) :
    ret ((s.pushed v).setPc x) = .next ((s.pushed v).popped.setPc v) := by
  have hread : ((s.pushed v).setPc x).firstUnwritten [.sp] = none :=
    (State.firstUnwritten_congr (State.setPc_config ..) (State.setPc_written ..) _).trans
      (State.firstUnwritten_pushed_sp v)
  rw [ret_next_iff, State.poppedWord_setPc, State.poppedWord_pushed hs, State.setPc_popped_setPc]
  exact .inr ⟨hread, by simpa using State.reaches_pushed_stack hs v, rfl⟩

/-- PUSH then POP of one pair. -/
theorem popPair_after_pushPair (hs : s.stackInRam) (p : StackPair)
    (hp : s.firstUnwritten (stackPairReads p ++ [.sp]) = none) :
    ∃ t u, pushPair p s = .next t ∧ popPair p t = .next u
      ∧ u.sp = s.sp ∧ u.flags = s.flags ∧ ∀ r : Reg, u.getReg r = s.getReg r := by
  refine ⟨s.pushed (s.getStackPair p), _,
    pushPair_next_iff.2 (.inr ⟨hp, ⟨hs.reachesHigh, hs.reachesLow⟩, rfl⟩), popPair_pushed hs p _, ?_, ?_, ?_⟩
  · rw [State.setStackPair_sp, State.popped_pushed_sp]
  · exact State.flags_setStackPair_getStackPair (by simp) p
  · exact State.getReg_setStackPair_getStackPair (by simp) p

/-- CALL then RET. -/
theorem ret_after_call (hs : s.stackInRam) (x : Word) (hsp : s.firstUnwritten [.sp] = none) :
    ∃ t u, call x s = .next t ∧ ret t = .next u ∧ t.pc = x ∧ u.pc = s.pc ∧ u.sp = s.sp :=
  ⟨(s.pushed s.pc).setPc x, (s.pushed s.pc).popped.setPc s.pc,
    callFrom_next_iff.2 (.inr ⟨hsp, ⟨hs.reachesHigh, hs.reachesLow⟩, rfl⟩), ret_setPc_pushed hs s.pc x,
    State.setPc_pc .., State.setPc_pc .., (State.setPc_sp ..).trans (State.popped_pushed_sp s.pc)⟩

/-- Settles O22: the two bytes pushed are distinct bytes of RAM, which `Pop16` reads back. -/
theorem ramStackGivesBackWhatWasPushed : Obligations.RamStackGivesBackWhatWasPushed := by
  intro s hhi hlo hrhi hrlo
  have hsub : s.sp - 2 = s.sp - 1 - 1 := by bv_omega
  rw [hsub] at hlo hrlo
  have hs : s.stackInRam := ⟨hhi, hlo, hrhi, hrlo⟩
  refine ⟨fun p hp => ?_, fun x hsp => ret_after_call hs x (canRead_iff.1 hsp)⟩
  rw [reads_pushPair, canRead_iff] at hp
  simpa only [exec_pushPair, exec_popPair] using popPair_after_pushPair hs p hp

end Sys2Proof.Machine
/-! # Invariants of the whole state: the family of 10_state.md

A step is a chain of the named updates of a state, so what each of them keeps, every step keeps
(`Kept.step`). -/

namespace Sys2Proof.Machine

/-! ## The form -/

/-- Every named update keeps a state in form; what is raised is latchable by the premise. -/
theorem kept_wf : Kept (fun s => s.wf = true) where
  setReg s r v h := by cases r <;> exact h
  setBc _ _ h := h
  setDe _ _ h := h
  setHl _ _ h := h
  setSp _ _ h := h
  setPc _ _ h := h
  writeFlags _ _ h := h
  setStopped _ h := h
  setHalted _ h := h
  setIme _ _ h := h
  raise s r hr h := by
    rw [State.wf_iff] at h ⊢
    obtain ⟨hwork, hhigh, hcart, hports, hevents, -⟩ := h
    exact ⟨hwork, hhigh, hcart, hports, hevents, fun q hq => Option.some.inj hq ▸ hr⟩
  afterLoad _ x h := State.wf_afterLoad x h
  store _ x v h := State.wf_store x v h

/-- Settles O48: each named update keeps the form. -/
theorem stepKeepsTheForm : Obligations.StepKeepsTheForm := fun _ _ h e => kept_wf.step h e

/-- Settles O49: every memory of the reset state is empty, the slot holds the Dummy and no fault is
latched. -/
theorem resetIsInForm : Obligations.ResetIsInForm :=
  (State.wf_iff _).2 ⟨rfl, rfl, rfl, fun l => by cases l <;> rfl, nofun, nofun⟩

/-! ## The parameters and the cartridge -/

/-- The same cartridge: the Dummy, or one construction of a ROM array. -/
def Cartridge.Same : Cartridge → Cartridge → Prop
  | .dummy, c => c = .dummy
  | .type1 t, c => ∃ t' : Type1, c = .type1 t' ∧ t'.rom = t.rom ∧ t'.serial = t.serial

theorem Cartridge.Same.refl (c : Cartridge) : c.Same c := by
  cases c with
  | dummy => rfl
  | type1 t => exact ⟨t, rfl, rfl, rfl⟩

/-- A write to the slot leaves the cartridge, its ROM and its serial (20_memory.md R84 to R92). -/
theorem Cartridge.Same.write {c d : Cartridge} (h : c.Same d) (n : Nat) (v : Byte) :
    c.Same (d.write n v) := by
  cases c with
  | dummy => rw [show d = .dummy from h]; rfl
  | type1 t =>
    obtain ⟨u, rfl, hrom, hserial⟩ := h
    exact ⟨u.write n v, rfl, (u.write_rom n v).trans hrom, (u.write_serial n v).trans hserial⟩

theorem Cartridge.Same.store {c : Cartridge} {s : State} (h : c.Same s.cart) (x : Word) (v : Byte) :
    c.Same (s.store x v).cart := by
  rcases ht : s.target x with ⟨d, n⟩
  rw [State.store_eq s ht]
  cases d with
  | cartridge => exact h.write n v
  | _ => exact h

/-- What no step changes: the parameters, the count of resets, and the cartridge with its ROM. -/
def State.SameFixed (s t : State) : Prop :=
  t.config = s.config ∧ t.epoch = s.epoch ∧ s.cart.Same t.cart

theorem kept_sameFixed (s : State) : Kept s.SameFixed where
  setReg t r v h := by cases r <;> exact h
  setBc _ _ h := h
  setDe _ _ h := h
  setHl _ _ h := h
  setSp _ _ h := h
  setPc _ _ h := h
  writeFlags _ _ h := h
  setStopped _ h := h
  setHalted _ h := h
  setIme _ _ h := h
  raise _ _ _ h := h
  afterLoad t x h := by simpa [State.SameFixed] using h
  store t x v h := by
    obtain ⟨hconfig, hepoch, hcart⟩ := h
    exact ⟨by simpa using hconfig, by simpa using hepoch, hcart.store x v⟩

/-- Settles O51: of the named updates only a store reaches the cartridge, and it leaves the ROM. -/
theorem stepKeepsRomAndParameters : Obligations.StepKeepsRomAndParameters := by
  intro s t e
  obtain ⟨hconfig, hepoch, hcart⟩ :=
    (kept_sameFixed s).step ⟨rfl, rfl, Cartridge.Same.refl s.cart⟩ e
  refine ⟨hconfig, hepoch, fun hc => ?_, fun c hc => ?_⟩
  · rw [hc] at hcart; exact hcart
  · rw [hc] at hcart; exact hcart

/-! ## What only a reset undoes -/

/-- `t` is stopped and halted where `s` is, and has every written bit of `s`. -/
def State.NotUndone (s t : State) : Prop :=
  (s.stopped = true → t.stopped = true) ∧ (s.halted = true → t.halted = true)
    ∧ ∀ n, s.written.get n = true → t.written.get n = true

theorem State.NotUndone.mark {s t u : State} (h : s.NotUndone t) (m : RegName)
    (hstopped : u.stopped = t.stopped) (hhalted : u.halted = t.halted)
    (hwritten : u.written = t.written.mark m) : s.NotUndone u := by
  obtain ⟨hs, hh, hw⟩ := h
  exact ⟨hstopped ▸ hs, hhalted ▸ hh, fun n hn => by simp [hwritten, hw n hn]⟩

theorem State.NotUndone.setReg {s t : State} (h : s.NotUndone t) (r : Reg) (v : Byte) :
    s.NotUndone (t.setReg r v) :=
  h.mark (.reg r) (State.setReg_stopped ..) (State.setReg_halted ..) (State.setReg_written ..)

theorem kept_notUndone (s : State) : Kept s.NotUndone where
  setReg _ r v h := h.setReg r v
  setBc t v h := (h.setReg .b (highByte v)).mark (.reg .c) rfl rfl rfl
  setDe t v h := (h.setReg .d (highByte v)).mark (.reg .e) rfl rfl rfl
  setHl t v h := (h.setReg .h (highByte v)).mark (.reg .l) rfl rfl rfl
  setSp _ _ h := h.mark .sp rfl rfl rfl
  setPc _ _ h := h
  writeFlags _ _ h := ⟨h.1, h.2.1, fun n hn => FlagWrites.get_marks_of_get (h.2.2 n hn)⟩
  setStopped _ h := ⟨fun _ => rfl, h.2⟩
  setHalted _ h := ⟨h.1, fun _ => rfl, h.2.2⟩
  setIme _ _ h := h
  raise _ _ _ h := h
  afterLoad t x h := by simpa [State.NotUndone] using h
  store t x v h := by simpa [State.NotUndone] using h

/-- Settles O50: no named update clears `stopped`, `halted` or a written bit. -/
theorem onlyResetUndoesStopAndHalt : Obligations.OnlyResetUndoesStopAndHalt := by
  intro s t e
  obtain ⟨hs, hh, hw⟩ := (kept_notUndone s).step ⟨id, id, fun _ => id⟩ e
  exact ⟨hs, hh, fun n => by simpa only [isWritten_eq_get] using hw n⟩

end Sys2Proof.Machine

/-! # Frames of one instruction: the family of 10_state.md

`exec_answers` says once, for the obligations' tables, what an instruction other than PREFIX CB can
do; the frames of the control state, of the registers and of the flags follow from it. -/

namespace Sys2Proof.Machine

variable {s t u : State} {i : Instr}

/-! ## What an update of the state changes -/

/-- A part of the CPU core that the frames speak of, the flags apart. -/
inductive Part where
  | reg (r : Reg)
  | sp
  | ime
  | stopped
  | halted
  | fault

/-- The part is as before, and so is its written bit if it has one (10_state.md R45). -/
def Part.Same (s t : State) : Part → Prop
  | .reg r => t.getReg r = s.getReg r ∧ t.written.get (.reg r) = s.written.get (.reg r)
  | .sp => t.sp = s.sp ∧ t.written.get .sp = s.written.get .sp
  | .ime => t.ime = s.ime
  | .stopped => t.stopped = s.stopped
  | .halted => t.halted = s.halted
  | .fault => t.fault = s.fault

theorem Part.Same.refl (p : Part) : p.Same s s := by cases p <;> simp [Part.Same]

theorem Part.Same.trans {p : Part} (h : p.Same s t) (h' : p.Same t u) : p.Same s u := by
  cases p with
  | reg r => exact ⟨h'.1.trans h.1, h'.2.trans h.2⟩
  | sp => exact ⟨h'.1.trans h.1, h'.2.trans h.2⟩
  | _ => exact Eq.trans h' h

/-- The writes of an operation that writes no flag. -/
def FlagWrites.nothing : FlagWrites := ⟨none, none, none, none⟩

@[simp] theorem FlagWrites.marks_nothing (m : Written) : FlagWrites.nothing.marks m = m := by
  simp [FlagWrites.marks, FlagWrites.nothing]

/-- The writes of an operation that writes all four flags. -/
def FlagWrites.all (f : Flags) : FlagWrites := ⟨some f.z, some f.n, some f.h, some f.c⟩

/-- From `s` to `t` only the parts in `may` change, and the flags as `w` says (10_state.md R23, R45). -/
structure Change (may : Part → Prop) (w : FlagWrites) (s t : State) : Prop where
  same : ∀ p, ¬ may p → p.Same s t
  flags : t.flags = w.over s.flags
  marks : ∀ f, t.written.get (.flag f) = (w.marks s.written).get (.flag f)

namespace Change

variable {may : Part → Prop} {w : FlagWrites}

theorem refl : Change may .nothing s s where
  same p _ := Part.Same.refl p
  flags := rfl
  marks f := by rw [FlagWrites.marks_nothing]

/-- An update that leaves the flags, and of the parts touches `q` at most. -/
theorem keep (h : Change may w s t) (q : Part) (hq : may q) (hsame : ∀ p, p ≠ q → p.Same t u)
    (hflags : u.flags = t.flags)
    (hmarks : ∀ f, u.written.get (.flag f) = t.written.get (.flag f)) : Change may w s u where
  same p hp := (h.same p hp).trans (hsame p fun e => hp (e ▸ hq))
  flags := hflags.trans h.flags
  marks f := (hmarks f).trans (h.marks f)

/-- An update that leaves the flags and every part. -/
theorem keepAll (h : Change may w s t) (hsame : ∀ p : Part, p.Same t u) (hflags : u.flags = t.flags)
    (hmarks : ∀ f, u.written.get (.flag f) = t.written.get (.flag f)) : Change may w s u where
  same p hp := (h.same p hp).trans (hsame p)
  flags := hflags.trans h.flags
  marks f := (hmarks f).trans (h.marks f)

theorem setPc (h : Change may w s t) (v : Word) : Change may w s (t.setPc v) :=
  h.keepAll (fun p => by cases p <;> simp [Part.Same]) rfl fun _ => rfl

theorem afterLoad (h : Change may w s t) (x : Word) : Change may w s (t.afterLoad x) :=
  h.keepAll (fun p => by cases p <;> simp [Part.Same]) (by simp) fun _ => by simp

theorem store (h : Change may w s t) (x : Word) (v : Byte) : Change may w s (t.store x v) :=
  h.keepAll (fun p => by cases p <;> simp [Part.Same]) (by simp) fun _ => by simp

theorem setReg (h : Change may w s t) (r : Reg) (v : Byte) (hr : may (.reg r)) :
    Change may w s (t.setReg r v) := by
  refine h.keep (.reg r) hr (fun p hp => ?_) (by simp) fun _ => by simp
  cases p with
  | reg q =>
    have hq : q ≠ r := fun e => hp (e ▸ rfl)
    simp [Part.Same, hq]
  | _ => simp [Part.Same]

theorem setSp (h : Change may w s t) (v : Word) (hsp : may .sp) : Change may w s (t.setSp v) :=
  h.keep .sp hsp (fun p hp => by cases p <;> simp_all [Part.Same]) rfl fun _ => by simp

theorem setIme (h : Change may w s t) (v : Bool) (hi : may .ime) : Change may w s (t.setIme v) :=
  h.keep .ime hi (fun p hp => by cases p <;> simp_all [Part.Same]) rfl fun _ => rfl

theorem setStopped (h : Change may w s t) (hs : may .stopped) : Change may w s t.setStopped :=
  h.keep .stopped hs (fun p hp => by cases p <;> simp_all [Part.Same]) rfl fun _ => rfl

theorem setHalted (h : Change may w s t) (hh : may .halted) : Change may w s t.setHalted :=
  h.keep .halted hh (fun p hp => by cases p <;> simp_all [Part.Same]) rfl fun _ => rfl

theorem raise (h : Change may w s t) (r : FaultRecord) (hf : may .fault) :
    Change may w s (t.raise r) :=
  h.keep .fault hf (fun p hp => by cases p <;> simp_all [Part.Same]) rfl fun _ => rfl

/-- Flags are written last: no rule writes them twice. -/
theorem writeFlags (h : Change may .nothing s t) (w : FlagWrites) :
    Change may w s (t.writeFlags w) where
  same p hp := (h.same p hp).trans (by cases p <;> simp [Part.Same])
  flags := congrArg w.over h.flags
  marks f := by
    have hm := h.marks f
    rw [FlagWrites.marks_nothing] at hm
    cases f <;> exact congrArg (· || _) hm

theorem setFlags (h : Change may .nothing s t) (f : Flags) :
    Change may (.all f) s (t.setFlags f) := h.writeFlags (.all f)

end Change

/-! ### The operations of the instruction families -/

/-- The registers behind an operand form (00_scope.md R11, R12). -/
def R8.regs : R8 → List Reg
  | .reg r => [r]
  | .atHl => []
def Pair.regs : Pair → List Reg
  | .bc => [.b, .c]
  | .de => [.d, .e]
  | .hl => [.h, .l]
  | .sp => []
def StackPair.regs : StackPair → List Reg
  | .bc => [.b, .c]
  | .de => [.d, .e]
  | .hl => [.h, .l]
  | .af => [.a]

/-- The registers that an accumulator access through a pair steps (41_loads8.md R229 to R232). -/
def IndAddr.regs : IndAddr → List Reg
  | .bc => []
  | .de => []
  | .hlInc => [.h, .l]
  | .hlDec => [.h, .l]

/-- The flags that POP of a pair writes: those of AF (42_loads16_stack.md R256). -/
def StackPair.flagWrites (v : Word) : StackPair → FlagWrites
  | .af => .all (Flags.ofByte (lowByte v))
  | _ => .nothing

namespace Change

variable {may : Part → Prop} {w : FlagWrites}

theorem setBc (h : Change may w s t) (v : Word) (hb : may (.reg .b)) (hc : may (.reg .c)) :
    Change may w s (t.setBc v) := (h.setReg .b (highByte v) hb).setReg .c (lowByte v) hc

theorem setDe (h : Change may w s t) (v : Word) (hd : may (.reg .d)) (he : may (.reg .e)) :
    Change may w s (t.setDe v) := (h.setReg .d (highByte v) hd).setReg .e (lowByte v) he

theorem setHl (h : Change may w s t) (v : Word) (hh : may (.reg .h)) (hl : may (.reg .l)) :
    Change may w s (t.setHl v) := (h.setReg .h (highByte v) hh).setReg .l (lowByte v) hl

theorem afterR8 (h : Change may w s t) (r : R8) : Change may w s (t.afterR8 r) := by
  cases r with
  | reg r => exact h
  | atHl => exact h.afterLoad _

theorem putR8 (h : Change may w s t) (r : R8) (v : Byte) (hr : ∀ q ∈ R8.regs r, may (.reg q)) :
    Change may w s (t.putR8 r v) := by
  cases r with
  | reg r => exact h.setReg r v (hr r (by simp [R8.regs]))
  | atHl => exact h.store _ v

theorem setPair (h : Change may w s t) (p : Pair) (v : Word) (hp : ∀ q ∈ Pair.regs p, may (.reg q))
    (hsp : p = .sp → may .sp) : Change may w s (t.setPair p v) := by
  cases p with
  | bc => exact h.setBc v (hp .b (by simp [Pair.regs])) (hp .c (by simp [Pair.regs]))
  | de => exact h.setDe v (hp .d (by simp [Pair.regs])) (hp .e (by simp [Pair.regs]))
  | hl => exact h.setHl v (hp .h (by simp [Pair.regs])) (hp .l (by simp [Pair.regs]))
  | sp => exact h.setSp v (hsp rfl)

theorem setStackPair (h : Change may .nothing s t) (p : StackPair) (v : Word)
    (hp : ∀ q ∈ StackPair.regs p, may (.reg q)) :
    Change may (StackPair.flagWrites v p) s (t.setStackPair p v) := by
  cases p with
  | bc => exact h.setBc v (hp .b (by simp [StackPair.regs])) (hp .c (by simp [StackPair.regs]))
  | de => exact h.setDe v (hp .d (by simp [StackPair.regs])) (hp .e (by simp [StackPair.regs]))
  | hl => exact h.setHl v (hp .h (by simp [StackPair.regs])) (hp .l (by simp [StackPair.regs]))
  | af => exact (h.setReg .a (highByte v) (hp .a (by simp [StackPair.regs]))).setFlags _

theorem afterInd (h : Change may w s t) (p : IndAddr) (hp : ∀ q ∈ IndAddr.regs p, may (.reg q)) :
    Change may w s (t.afterInd p) := by
  cases p with
  | bc => exact h
  | de => exact h
  | hlInc => exact h.setHl _ (hp .h (by simp [IndAddr.regs])) (hp .l (by simp [IndAddr.regs]))
  | hlDec => exact h.setHl _ (hp .h (by simp [IndAddr.regs])) (hp .l (by simp [IndAddr.regs]))

theorem pushed (h : Change may w s t) (v : Word) (hsp : may .sp) : Change may w s (t.pushed v) :=
  (((h.setSp _ hsp).store _ _).setSp _ hsp).store _ _

theorem popped (h : Change may w s t) (hsp : may .sp) : Change may w s t.popped :=
  (((h.afterLoad _).setSp _ hsp).afterLoad _).setSp _ hsp

/-- CP leaves A (43_alu8.md R278). -/
theorem alu (h : Change may .nothing s t) (op : AluOp) (v : Byte)
    (ha : op ≠ .cp → may (.reg .a)) :
    Change may (.all (aluFlags op (t.getReg .a) v t.flags.c)) s (t.alu op v) := by
  cases op with
  | cp => exact h.setFlags _
  | _ => exact (h.setReg .a _ (ha nofun)).setFlags _

theorem raiseIllegal (h : Change may w s t) (op : Byte) (n : Nat) (hf : may .fault) :
    Change may w s (t.raiseIllegal op n) := (h.setPc _).raise _ hf

end Change

/-! ## The tables of the obligations, by form (30_encoding.md R131 to R135) -/

/-- A row of the table of 10_state.md R23: Z, N, H, C. -/
abbrev FlagRow : Type := Spec.FlagCell × Spec.FlagCell × Spec.FlagCell × Spec.FlagCell

/-- The row of an instruction that writes no flag. -/
def FlagRow.keeps : FlagRow := (.keeps, .keeps, .keeps, .keeps)

/-- What the tables say of an opcode other than CCF's: the registers and flags its rule reads, the
general registers it writes, whether it writes SP, and its row of flags. -/
structure Listed (k : Nat) (names : State → List RegName) (regs : List Reg) (sp : Bool)
    (row : FlagRow) : Prop where
  reads : ∀ s, Spec.readsOf k s = names s
  regs : Spec.writtenRegs k = regs
  sp : Spec.writesSp k = sp
  row : Spec.flagRow k = row
  notCcf : k ≠ 0x3F

/-! An operand byte is no part of the opcode (30_encoding.md R120). -/

theorem opcode_aluN8 (op : AluOp) (n : Byte) :
    Spec.opcode (Instr.aluN8 op n) = Spec.opcode (Instr.aluN8 op 0) := by cases op <;> rfl
theorem opcode_ldR8N8 (r : R8) (n : Byte) :
    Spec.opcode (Instr.ldR8N8 r n) = Spec.opcode (Instr.ldR8N8 r 0) := by
  rcases r with r | _
  · cases r <;> rfl
  · rfl
theorem opcode_ldPairN16 (p : Pair) (nn : Word) :
    Spec.opcode (Instr.ldPairN16 p nn) = Spec.opcode (Instr.ldPairN16 p 0) := by cases p <;> rfl
theorem opcode_jrCc (cc : Cond) (e : Byte) :
    Spec.opcode (Instr.jrCc cc e) = Spec.opcode (Instr.jrCc cc 0) := by cases cc <;> rfl
theorem opcode_jpCc (cc : Cond) (x : Word) :
    Spec.opcode (Instr.jpCc cc x) = Spec.opcode (Instr.jpCc cc 0) := by cases cc <;> rfl
theorem opcode_callCc (cc : Cond) (x : Word) :
    Spec.opcode (Instr.callCc cc x) = Spec.opcode (Instr.callCc cc 0) := by cases cc <;> rfl

/-- The row of an 8-bit ALU operation. -/
def AluOp.flagRow : AluOp → FlagRow
  | .add => (.result, .zero, .result, .result)
  | .adc => (.result, .zero, .result, .result)
  | .sub => (.result, .one, .result, .result)
  | .sbc => (.result, .one, .result, .result)
  | .and => (.result, .zero, .one, .zero)
  | .xor => (.result, .zero, .zero, .zero)
  | .or => (.result, .zero, .zero, .zero)
  | .cp => (.result, .one, .result, .result)

/-- The registers an 8-bit ALU operation writes. -/
def AluOp.regs : AluOp → List Reg
  | .cp => []
  | _ => [.a]

/-- The row of an extended rotate or shift. -/
def RotOp.flagRow : RotOp → FlagRow
  | .swap => (.result, .zero, .zero, .zero)
  | _ => (.result, .zero, .zero, .result)

theorem listed_load {d z : R8} (h : ¬ (d = .atHl ∧ z = .atHl)) :
    Listed (Spec.opcode (Instr.class01 d z)) (fun _ => r8AddressReads d ++ r8Reads z)
      (R8.regs d) false .keeps := by
  rcases d with q | _ <;> rcases z with r | _
  · cases q <;> cases r <;> exact ⟨fun _ => rfl, rfl, rfl, rfl, nofun⟩
  · cases q <;> exact ⟨fun _ => rfl, rfl, rfl, rfl, nofun⟩
  · cases r <;> exact ⟨fun _ => rfl, rfl, rfl, rfl, nofun⟩
  · exact absurd ⟨rfl, rfl⟩ h

theorem listed_aluR8 (op : AluOp) (r : R8) :
    Listed (Spec.opcode (Instr.aluR8 op r)) (fun _ => r8Reads r ++ aluReads op)
      (AluOp.regs op) false (AluOp.flagRow op) := by
  rcases r with r | _
  · cases op <;> cases r <;> exact ⟨fun _ => rfl, rfl, rfl, rfl, nofun⟩
  · cases op <;> exact ⟨fun _ => rfl, rfl, rfl, rfl, nofun⟩

theorem listed_aluN8 (op : AluOp) (n : Byte) :
    Listed (Spec.opcode (Instr.aluN8 op n)) (fun _ => aluReads op)
      (AluOp.regs op) false (AluOp.flagRow op) := by
  rw [opcode_aluN8]
  cases op <;> exact ⟨fun _ => rfl, rfl, rfl, rfl, nofun⟩

theorem listed_incR8 (r : R8) :
    Listed (Spec.opcode (Instr.incR8 r)) (fun _ => r8Reads r) (R8.regs r) false
    (.result, .zero, .result, .keeps) := by
  rcases r with r | _
  · cases r <;> exact ⟨fun _ => rfl, rfl, rfl, rfl, nofun⟩
  · exact ⟨fun _ => rfl, rfl, rfl, rfl, nofun⟩

theorem listed_decR8 (r : R8) :
    Listed (Spec.opcode (Instr.decR8 r)) (fun _ => r8Reads r) (R8.regs r) false
    (.result, .one, .result, .keeps) := by
  rcases r with r | _
  · cases r <;> exact ⟨fun _ => rfl, rfl, rfl, rfl, nofun⟩
  · exact ⟨fun _ => rfl, rfl, rfl, rfl, nofun⟩

theorem listed_ldR8N8 (r : R8) (n : Byte) :
    Listed (Spec.opcode (Instr.ldR8N8 r n)) (fun _ => r8AddressReads r)
      (R8.regs r) false .keeps := by
  rw [opcode_ldR8N8]
  rcases r with r | _
  · cases r <;> exact ⟨fun _ => rfl, rfl, rfl, rfl, nofun⟩
  · exact ⟨fun _ => rfl, rfl, rfl, rfl, nofun⟩

theorem listed_ldPairN16 (p : Pair) (nn : Word) :
    Listed (Spec.opcode (Instr.ldPairN16 p nn)) (fun _ => []) (Pair.regs p) (p = .sp) .keeps := by
  rw [opcode_ldPairN16]
  cases p <;> exact ⟨fun _ => rfl, rfl, rfl, rfl, nofun⟩

theorem listed_addHlPair (p : Pair) :
    Listed (Spec.opcode (Instr.addHlPair p)) (fun _ => pairReads .hl ++ pairReads p) [.h, .l] false
      (.keeps, .zero, .result, .result) := by
  cases p <;> exact ⟨fun _ => rfl, rfl, rfl, rfl, nofun⟩

theorem listed_incPair (p : Pair) :
    Listed (Spec.opcode (Instr.incPair p)) (fun _ => pairReads p)
      (Pair.regs p) (p = .sp) .keeps := by
  cases p <;> exact ⟨fun _ => rfl, rfl, rfl, rfl, nofun⟩

theorem listed_decPair (p : Pair) :
    Listed (Spec.opcode (Instr.decPair p)) (fun _ => pairReads p)
      (Pair.regs p) (p = .sp) .keeps := by
  cases p <;> exact ⟨fun _ => rfl, rfl, rfl, rfl, nofun⟩

theorem listed_pushPair (p : StackPair) :
    Listed (Spec.opcode (Instr.pushPair p)) (fun _ => stackPairReads p ++ [.sp])
      [] true .keeps := by
  cases p <;> exact ⟨fun _ => rfl, rfl, rfl, rfl, nofun⟩

/-- The row of POP: only F comes from the stack (42_loads16_stack.md R255, R256). -/
def StackPair.flagRow : StackPair → FlagRow
  | .af => (.result, .result, .result, .result)
  | _ => .keeps

theorem listed_popPair (p : StackPair) :
    Listed (Spec.opcode (Instr.popPair p)) (fun _ => [.sp])
      (StackPair.regs p) true (StackPair.flagRow p) := by
  cases p <;> exact ⟨fun _ => rfl, rfl, rfl, rfl, nofun⟩

theorem listed_storeInd (p : IndAddr) :
    Listed (Spec.opcode (Instr.storeInd p)) (fun _ => indReads p ++ [.reg .a])
      (IndAddr.regs p) false .keeps := by
  cases p <;> exact ⟨fun _ => rfl, rfl, rfl, rfl, nofun⟩

theorem listed_loadInd (p : IndAddr) :
    Listed (Spec.opcode (Instr.loadInd p)) (fun _ => indReads p)
      (.a :: IndAddr.regs p) false .keeps := by
  cases p <;> exact ⟨fun _ => rfl, rfl, rfl, rfl, nofun⟩

theorem listed_rlca :
    Listed (Spec.opcode .rlca) (fun _ => [.reg .a]) [.a] false (.zero, .zero, .zero, .result) :=
  ⟨fun _ => rfl, rfl, rfl, rfl, nofun⟩
theorem listed_rrca :
    Listed (Spec.opcode .rrca) (fun _ => [.reg .a]) [.a] false (.zero, .zero, .zero, .result) :=
  ⟨fun _ => rfl, rfl, rfl, rfl, nofun⟩
theorem listed_rla :
    Listed (Spec.opcode .rla) (fun _ => [.reg .a, .flag .c])
      [.a] false (.zero, .zero, .zero, .result) :=
  ⟨fun _ => rfl, rfl, rfl, rfl, nofun⟩
theorem listed_rra :
    Listed (Spec.opcode .rra) (fun _ => [.reg .a, .flag .c])
      [.a] false (.zero, .zero, .zero, .result) :=
  ⟨fun _ => rfl, rfl, rfl, rfl, nofun⟩
theorem listed_daa :
    Listed (Spec.opcode .daa) (fun _ => [.reg .a, .flag .c, .flag .n, .flag .h]) [.a] false
      (.result, .keeps, .zero, .result) := ⟨fun _ => rfl, rfl, rfl, rfl, nofun⟩
theorem listed_cpl :
    Listed (Spec.opcode .cpl) (fun _ => [.reg .a]) [.a] false (.keeps, .one, .one, .keeps) :=
  ⟨fun _ => rfl, rfl, rfl, rfl, nofun⟩
theorem listed_scf :
    Listed (Spec.opcode .scf) (fun _ => []) [] false (.keeps, .zero, .zero, .one) :=
  ⟨fun _ => rfl, rfl, rfl, rfl, nofun⟩

theorem listed_jrCc (cc : Cond) (e : Byte) :
    Listed (Spec.opcode (Instr.jrCc cc e)) (fun _ => condReads cc) [] false .keeps := by
  rw [opcode_jrCc]
  cases cc <;> exact ⟨fun _ => rfl, rfl, rfl, rfl, nofun⟩

theorem listed_jpCc (cc : Cond) (x : Word) :
    Listed (Spec.opcode (Instr.jpCc cc x)) (fun _ => condReads cc) [] false .keeps := by
  rw [opcode_jpCc]
  cases cc <;> exact ⟨fun _ => rfl, rfl, rfl, rfl, nofun⟩

/-- What a conditional call or return reads: its flag, and SP if it is taken. -/
def condStackReads (cc : Cond) (s : State) : List RegName :=
  condReads cc ++ if s.flags.cond cc then [.sp] else []

theorem listed_retCc (cc : Cond) :
    Listed (Spec.opcode (Instr.retCc cc)) (condStackReads cc) [] true .keeps := by
  have hreads (s : State) : Spec.readsOf (Spec.opcode (Instr.retCc cc)) s = condStackReads cc s := by
    rcases hf : s.flags with ⟨z, n, h, c⟩
    simp only [Spec.readsOf, condStackReads, hf]
    cases cc <;> cases z <;> cases c <;> rfl
  cases cc <;> exact ⟨hreads, rfl, rfl, rfl, nofun⟩

/-- What a conditional call reads: nothing if it is in `UNIMPL_CCALL` (46_control_transfer.md R346). -/
def callReads (cc : Cond) (s : State) : List RegName :=
  if unimplementedCall s.config (callOpcode cc) then [] else condStackReads cc s

theorem listed_callCc (cc : Cond) (x : Word) :
    Listed (Spec.opcode (Instr.callCc cc x)) (callReads cc) [] true .keeps := by
  rw [opcode_callCc]
  have hreads (s : State) : Spec.readsOf (Spec.opcode (Instr.callCc cc 0)) s = callReads cc s := by
    rcases hf : s.flags with ⟨z, n, h, c⟩
    rcases hu : s.config.unimplCcall with ⟨unz, uz, unc, uc⟩
    simp only [Spec.readsOf, callReads, condStackReads, unimplementedCall, hf, hu]
    cases cc
    · cases z <;> cases unz <;> rfl
    · cases z <;> cases uz <;> rfl
    · cases c <;> cases unc <;> rfl
    · cases c <;> cases uc <;> rfl
  cases cc <;> exact ⟨hreads, rfl, rfl, rfl, nofun⟩

theorem listed_rst (y : Fin 8) :
    Listed (Spec.opcode (Instr.rst y)) (fun _ => [.sp]) [] true .keeps := by
  fin_cases y <;> exact ⟨fun _ => rfl, rfl, rfl, rfl, nofun⟩

/-- What an extended rotate or shift reads: its operand, and the carry where the row that
`CB_ROW1_AS_RLC` selects rotates through it (45_rotate_shift_bit.md R314, R317, R318). -/
def rotReads (o : RotOp) (r : R8) (s : State) : List RegName :=
  r8Reads r ++ rotCarryReads (rotEffective s.config.cbRow1AsRlc o)

theorem listed_rot (o : RotOp) (r : R8) :
    Listed (Spec.opcode (Instr.rot o r)) (rotReads o r) (R8.regs r) false (RotOp.flagRow o) := by
  have hreads (s : State) : Spec.readsOf (Spec.opcode (Instr.rot o r)) s = rotReads o r s := by
    simp only [Spec.readsOf, rotReads]
    generalize s.config.cbRow1AsRlc = b
    rcases r with r | _
    · cases b <;> cases o <;> cases r <;> rfl
    · cases b <;> cases o <;> rfl
  rcases r with r | _
  · cases o <;> cases r <;> exact ⟨hreads, rfl, rfl, rfl, nofun⟩
  · cases o <;> exact ⟨hreads, rfl, rfl, rfl, nofun⟩

theorem listed_bit (b : Fin 8) (r : R8) :
    Listed (Spec.opcode (Instr.bit b r)) (fun _ => r8Reads r)
      [] false (.result, .zero, .one, .keeps) := by
  rcases r with r | _
  · fin_cases b <;> cases r <;> exact ⟨fun _ => rfl, rfl, rfl, rfl, nofun⟩
  · fin_cases b <;> exact ⟨fun _ => rfl, rfl, rfl, rfl, nofun⟩

theorem listed_res (b : Fin 8) (r : R8) :
    Listed (Spec.opcode (Instr.res b r)) (fun _ => r8Reads r) (R8.regs r) false .keeps := by
  rcases r with r | _
  · fin_cases b <;> cases r <;> exact ⟨fun _ => rfl, rfl, rfl, rfl, nofun⟩
  · fin_cases b <;> exact ⟨fun _ => rfl, rfl, rfl, rfl, nofun⟩

theorem listed_set (b : Fin 8) (r : R8) :
    Listed (Spec.opcode (Instr.set b r)) (fun _ => r8Reads r) (R8.regs r) false .keeps := by
  rcases r with r | _
  · fin_cases b <;> cases r <;> exact ⟨fun _ => rfl, rfl, rfl, rfl, nofun⟩
  · fin_cases b <;> exact ⟨fun _ => rfl, rfl, rfl, rfl, nofun⟩

theorem listed_nop :
    Listed (Spec.opcode .nop) (fun _ => []) [] false .keeps :=
  show Listed 0x00 _ _ _ _ from ⟨fun _ => rfl, rfl, rfl, rfl, nofun⟩
theorem listed_stop :
    Listed (Spec.opcode .stop) (fun _ => []) [] false .keeps :=
  show Listed 0x10 _ _ _ _ from ⟨fun _ => rfl, rfl, rfl, rfl, nofun⟩
theorem listed_halt :
    Listed (Spec.opcode .halt) (fun _ => []) [] false .keeps :=
  show Listed 0x76 _ _ _ _ from ⟨fun _ => rfl, rfl, rfl, rfl, nofun⟩
theorem listed_di :
    Listed (Spec.opcode .di) (fun _ => []) [] false .keeps :=
  show Listed 0xF3 _ _ _ _ from ⟨fun _ => rfl, rfl, rfl, rfl, nofun⟩
theorem listed_ei :
    Listed (Spec.opcode .ei) (fun _ => []) [] false .keeps :=
  show Listed 0xFB _ _ _ _ from ⟨fun _ => rfl, rfl, rfl, rfl, nofun⟩
theorem listed_ldAtA16Sp (x : Word) :
    Listed (Spec.opcode (.ldAtA16Sp x)) (fun _ => [.sp]) [] false .keeps :=
  show Listed 0x08 _ _ _ _ from ⟨fun _ => rfl, rfl, rfl, rfl, nofun⟩
theorem listed_jrE8 (e : Byte) :
    Listed (Spec.opcode (.jrE8 e)) (fun _ => []) [] false .keeps :=
  show Listed 0x18 _ _ _ _ from ⟨fun _ => rfl, rfl, rfl, rfl, nofun⟩
theorem listed_ldhAtA8A (n : Byte) :
    Listed (Spec.opcode (.ldhAtA8A n)) (fun _ => [.reg .a]) [] false .keeps :=
  show Listed 0xE0 _ _ _ _ from ⟨fun _ => rfl, rfl, rfl, rfl, nofun⟩
theorem listed_ldhAAtA8 (n : Byte) :
    Listed (Spec.opcode (.ldhAAtA8 n)) (fun _ => []) [.a] false .keeps :=
  show Listed 0xF0 _ _ _ _ from ⟨fun _ => rfl, rfl, rfl, rfl, nofun⟩
theorem listed_ldAtCA :
    Listed (Spec.opcode .ldAtCA) (fun _ => [.reg .c, .reg .a]) [] false .keeps :=
  show Listed 0xE2 _ _ _ _ from ⟨fun _ => rfl, rfl, rfl, rfl, nofun⟩
theorem listed_ldAAtC :
    Listed (Spec.opcode .ldAAtC) (fun _ => [.reg .c]) [.a] false .keeps :=
  show Listed 0xF2 _ _ _ _ from ⟨fun _ => rfl, rfl, rfl, rfl, nofun⟩
theorem listed_ldAtA16A (x : Word) :
    Listed (Spec.opcode (.ldAtA16A x)) (fun _ => [.reg .a]) [] false .keeps :=
  show Listed 0xEA _ _ _ _ from ⟨fun _ => rfl, rfl, rfl, rfl, nofun⟩
theorem listed_ldAAtA16 (x : Word) :
    Listed (Spec.opcode (.ldAAtA16 x)) (fun _ => []) [.a] false .keeps :=
  show Listed 0xFA _ _ _ _ from ⟨fun _ => rfl, rfl, rfl, rfl, nofun⟩
theorem listed_addSpE8 (e : Byte) :
    Listed (Spec.opcode (.addSpE8 e)) (fun _ => [.sp]) [] true (.zero, .zero, .result, .result) :=
  show Listed 0xE8 _ _ _ _ from ⟨fun _ => rfl, rfl, rfl, rfl, nofun⟩
theorem listed_ldHlSpE8 (e : Byte) :
    Listed (Spec.opcode (.ldHlSpE8 e)) (fun _ => [.sp])
      [.h, .l] false (.zero, .zero, .result, .result) :=
  show Listed 0xF8 _ _ _ _ from ⟨fun _ => rfl, rfl, rfl, rfl, nofun⟩
theorem listed_ldSpHl :
    Listed (Spec.opcode .ldSpHl) (fun _ => [.reg .h, .reg .l]) [] true .keeps :=
  show Listed 0xF9 _ _ _ _ from ⟨fun _ => rfl, rfl, rfl, rfl, nofun⟩
theorem listed_ret :
    Listed (Spec.opcode .ret) (fun _ => [.sp]) [] true .keeps :=
  show Listed 0xC9 _ _ _ _ from ⟨fun _ => rfl, rfl, rfl, rfl, nofun⟩
theorem listed_reti :
    Listed (Spec.opcode .reti) (fun _ => [.sp]) [] true .keeps :=
  show Listed 0xD9 _ _ _ _ from ⟨fun _ => rfl, rfl, rfl, rfl, nofun⟩
theorem listed_jpHl :
    Listed (Spec.opcode .jpHl) (fun _ => [.reg .h, .reg .l]) [] false .keeps :=
  show Listed 0xE9 _ _ _ _ from ⟨fun _ => rfl, rfl, rfl, rfl, nofun⟩
theorem listed_jpA16 (x : Word) :
    Listed (Spec.opcode (.jpA16 x)) (fun _ => []) [] false .keeps :=
  show Listed 0xC3 _ _ _ _ from ⟨fun _ => rfl, rfl, rfl, rfl, nofun⟩
theorem listed_callA16 (x : Word) :
    Listed (Spec.opcode (.callA16 x)) (fun _ => [.sp]) [] true .keeps :=
  show Listed 0xCD _ _ _ _ from ⟨fun _ => rfl, rfl, rfl, rfl, nofun⟩

/-- The eleven opcodes of 30_encoding.md R136. -/
theorem listed_illegal {op : Byte} (h : (Instr.illegal op).wf = true) :
    Listed (Spec.opcode (.illegal op)) (fun _ => []) [] false .keeps := by
  simp only [Instr.wf, illegalOpcodes, List.contains_iff_mem, List.mem_cons, List.not_mem_nil,
    or_false] at h
  rcases h with rfl | rfl | rfl | rfl | rfl | rfl | rfl | rfl | rfl | rfl | rfl <;>
    exact ⟨fun _ => rfl, rfl, rfl, rfl, nofun⟩

/-! ## What an instruction other than PREFIX CB can do -/

/-- The parts of the CPU core that the rule of an instruction may change (10_state.md R21, R25, R27;
60_exceptions.md R402, R411). -/
def Part.Allowed (i : Instr) : Part → Prop
  | .reg r => r ∈ Spec.writtenRegs (Spec.opcode i)
  | .sp => Spec.writesSp (Spec.opcode i) = true
  | .ime => i = .di ∨ i = .ei ∨ i = .reti
  | .stopped => i = .stop
  | .halted => i = .halt
  | .fault => (∃ op, i = .illegal op) ∨ ∃ cc x, i = Instr.callCc cc x

/-- The cell describes a write of one flag: `none` keeps it. -/
def GivesFlag : Spec.FlagCell → Option Bool → Prop
  | .keeps, o => o = none
  | .zero, o => o = some false
  | .one, o => o = some true
  | .result, o => o.isSome = true

/-- The row describes the writes of the four flags. -/
def FlagRow.Gives (row : FlagRow) (w : FlagWrites) : Prop :=
  GivesFlag row.1 w.z ∧ GivesFlag row.2.1 w.n ∧ GivesFlag row.2.2.1 w.h ∧ GivesFlag row.2.2.2 w.c

/-- The rule ran to its end: every read was of something written, only what the rule names changed,
and the flags as its row says. -/
structure Completes (i : Instr) (s t : State) : Prop where
  canRead : i.wf = true → Spec.canRead s (Spec.reads i s)
  change : ∃ w, Change (Part.Allowed i) w s t
    ∧ (i.wf = true → FlagRow.Gives (Spec.flagRow (Spec.opcode i)) w)

/-- The first unwritten read ended the instruction in a state `u` that has every part and flag as
before, CCF's N and H apart, and `t` is `u` with the fault latched (60_exceptions.md R407, R418). -/
structure EndedAt (i : Instr) (s t u : State) (n : RegName) (len : Nat) : Prop where
  unwritten : s.firstUnwritten (Spec.reads i s) = some n
  raised : t = u.raiseUnwritten n len
  same : ∀ p : Part, p.Same s u
  flags : u.flags = (Spec.writtenFirst i s).flags
  marks : ∀ f, u.written.get (.flag f) = (Spec.writtenFirst i s).written.get (.flag f)

/-- What an instruction other than PREFIX CB can do. -/
def Answers (i : Instr) (s t : State) : Prop := (∃ u n len, EndedAt i s t u n len) ∨ Completes i s t

/-- Two lists of reads one after the other are one list. -/
theorem reads_append_iff {a b : List RegName} {len : Nat} {Q : Prop} :
    (s.stopsUnread a len t ∨ s.firstUnwritten a = none
      ∧ (s.stopsUnread b len t ∨ s.firstUnwritten b = none ∧ Q)) ↔
    s.stopsUnread (a ++ b) len t ∨ s.firstUnwritten (a ++ b) = none ∧ Q := by
  cases ha : s.firstUnwritten a <;> simp [State.stopsUnread, State.firstUnwritten_append, ha]

namespace Listed

variable {names : State → List RegName} {regs : List Reg} {sp : Bool} {row : FlagRow}
  {len : Nat} {Q : Prop} {w : FlagWrites}

theorem mayReg (T : Listed (Spec.opcode i) names regs sp row) :
    ∀ r ∈ regs, Part.Allowed i (.reg r) := fun r hr =>
  show r ∈ Spec.writtenRegs _ from T.regs.symm ▸ hr

theorem maySp (T : Listed (Spec.opcode i) names regs sp row) (h : sp = true) :
    Part.Allowed i .sp := T.sp.trans h

/-- The instruction completed with these changes. -/
theorem completes (T : Listed (Spec.opcode i) names regs sp row) (hn : s.firstUnwritten (names s) = none)
    (hc : Change (Part.Allowed i) w s t) (hw : FlagRow.Gives row w) : Answers i s t :=
  .inr ⟨fun _ => canRead_iff.2 ((congrArg s.firstUnwritten (T.reads s)).trans hn),
    w, hc, fun _ => T.row ▸ hw⟩

/-- The instruction ended at an unwritten read after accesses of the Bus. -/
theorem ends (T : Listed (Spec.opcode i) names regs sp row) {n : RegName}
    (hn : s.firstUnwritten (names s) = some n) (hu : Change (fun _ => False) .nothing s u) :
    Answers i s (u.raiseUnwritten n len) := by
  have hfirst : Spec.writtenFirst i s = s := if_neg T.notCcf
  refine .inl ⟨u, n, len, (congrArg s.firstUnwritten (T.reads s)).trans hn, rfl,
    fun p => hu.same p id, ?_, fun f => ?_⟩
  · rw [hfirst]; exact hu.flags
  · rw [hfirst, hu.marks, FlagWrites.marks_nothing]

/-- An instruction that makes all its reads before anything else. -/
theorem answers (T : Listed (Spec.opcode i) names regs sp row)
    (e : s.stopsUnread (names s) len t ∨ s.firstUnwritten (names s) = none ∧ Q)
    (hc : Q → Change (Part.Allowed i) w s t) (hw : FlagRow.Gives row w) : Answers i s t := by
  rcases e with ⟨n, hn, rfl⟩ | ⟨hn, hq⟩
  · exact T.ends hn .refl
  · exact T.completes hn (hc hq) hw

/-- An instruction that reads its operand from the Bus between its reads of registers and flags. -/
theorem answersOperand (T : Listed (Spec.opcode i) names regs sp row) {a b : List RegName} {r : R8}
    {P : Prop} (hab : names s = a ++ b)
    (e : s.stopsUnread a len t ∨ s.firstUnwritten a = none ∧ P
      ∧ ((s.afterR8 r).stopsUnread b len t ∨ s.firstUnwritten b = none ∧ Q))
    (hc : Q → Change (Part.Allowed i) w s t) (hw : FlagRow.Gives row w) : Answers i s t := by
  have happ : s.firstUnwritten (names s) = (s.firstUnwritten a).or (s.firstUnwritten b) := by
    rw [hab, State.firstUnwritten_append]
  rcases e with ⟨n, ha, rfl⟩ | ⟨ha, -, ⟨n, hb, rfl⟩ | ⟨hb, hq⟩⟩
  · exact T.ends (by rw [happ, ha]; rfl) .refl
  · rw [State.firstUnwritten_afterR8] at hb
    exact T.ends (by rw [happ, ha, hb]; rfl) (Change.refl.afterR8 r)
  · exact T.completes (by rw [happ, ha, hb]; rfl) (hc hq) hw

end Listed

theorem FlagRow.gives_keeps : FlagRow.Gives .keeps .nothing := ⟨rfl, rfl, rfl, rfl⟩

theorem FlagRow.gives_alu (op : AluOp) (a v : Byte) (c : Bool) :
    FlagRow.Gives (AluOp.flagRow op) (.all (aluFlags op a v c)) := by
  cases op <;> exact ⟨rfl, rfl, rfl, rfl⟩

theorem FlagRow.gives_rot (o : RotOp) (b : Bool) (v : Byte) (c : Bool) :
    FlagRow.Gives (RotOp.flagRow o) (.all (rotFlags (rotEffective b o) v c)) := by
  cases o <;> cases b <;> exact ⟨rfl, rfl, rfl, rfl⟩

theorem FlagRow.gives_rotA (o : RotOp) (v : Byte) :
    FlagRow.Gives (.zero, .zero, .zero, .result) (.all (rotAFlags o v)) := ⟨rfl, rfl, rfl, rfl⟩

theorem FlagRow.gives_inc (v : Byte) :
    FlagRow.Gives (.result, .zero, .result, .keeps) (incFlags v) := ⟨rfl, rfl, rfl, rfl⟩

theorem FlagRow.gives_dec (v : Byte) :
    FlagRow.Gives (.result, .one, .result, .keeps) (decFlags v) := ⟨rfl, rfl, rfl, rfl⟩

theorem FlagRow.gives_addHl (a v : Word) :
    FlagRow.Gives (.keeps, .zero, .result, .result) (addHlFlags a v) := ⟨rfl, rfl, rfl, rfl⟩

theorem FlagRow.gives_spOffset (sp : Word) (e : Byte) :
    FlagRow.Gives (.zero, .zero, .result, .result) (.all (spOffsetFlags sp e)) :=
  ⟨rfl, rfl, rfl, rfl⟩

theorem FlagRow.gives_bit (v : Byte) (b : Nat) :
    FlagRow.Gives (.result, .zero, .one, .keeps) (bitFlags v b) := ⟨rfl, rfl, rfl, rfl⟩

theorem FlagRow.gives_pop (p : StackPair) (v : Word) :
    FlagRow.Gives (StackPair.flagRow p) (StackPair.flagWrites v p) := by
  cases p <;> exact ⟨rfl, rfl, rfl, rfl⟩

/-- What a conditional instruction does: nothing more, or what it does when taken. -/
theorem ite_next_cases {c : Bool} {o : Res State} (e : (if c then o else .next s) = .next t) :
    c = true ∧ o = .next t ∨ c = false ∧ t = s := by
  cases c
  · exact .inr ⟨rfl, next_inj.1 e⟩
  · exact .inl ⟨rfl, e⟩

/-- CCF clears N and H before it reads C (43_alu8.md R284). -/
theorem answers_ccf (e : ccf s = .next t) : Answers .ccf s t := by
  have hreads : Spec.reads .ccf s = [.flag .c] := rfl
  rcases ccf_next_iff.1 e with ⟨n, hn, rfl⟩ | ⟨hn, rfl⟩
  · refine .inl ⟨_, n, 1, ?_, rfl, ?_, rfl, fun _ => rfl⟩
    · rw [hreads, ← hn]; simp [State.firstUnwritten, State.writeFlags, Written.get, FlagWrites.marks]
    · exact fun p => (Change.refl.writeFlags _ : Change (fun _ => False) _ s _).same p id
  · refine .inr ⟨fun _ => canRead_iff.2 (hreads ▸ hn), _, Change.refl.writeFlags _, fun _ => ?_⟩
    exact ⟨rfl, rfl, rfl, rfl⟩

/-- The accumulator rotates: A and all four flags (45_rotate_shift_bit.md R310 to R313). -/
theorem answers_rotA {o : RotOp} (e : rotA o s = .next t)
    (T : Listed (Spec.opcode i) (fun _ => .reg .a :: rotCarryReads o) [.a] false
      (.zero, .zero, .zero, .result)) : Answers i s t :=
  T.answers (reading_next_next_iff.1 e)
    (fun e => e ▸ (Change.refl.setReg .a _ (T.mayReg .a (by simp))).setFlags _)
    (FlagRow.gives_rotA ..)

theorem answers_accOp {o : AccOp} (e : exec (Instr.accOp o) s = .next t) :
    Answers (Instr.accOp o) s t := by
  rw [exec_accOp] at e
  cases o with
  | rlca => exact answers_rotA e listed_rlca
  | rrca => exact answers_rotA e listed_rrca
  | rla => exact answers_rotA e listed_rla
  | rra => exact answers_rotA e listed_rra
  | daa =>
    rcases reading_next_next_iff.1 e with ⟨n, hn, rfl⟩ | ⟨hn, rfl⟩
    · exact listed_daa.ends hn .refl
    · exact listed_daa.completes hn
        ((Change.refl.setReg .a _ (listed_daa.mayReg .a (by simp))).writeFlags _) ⟨rfl, rfl, rfl, rfl⟩
  | cpl =>
    rcases reading_next_next_iff.1 e with ⟨n, hn, rfl⟩ | ⟨hn, rfl⟩
    · exact listed_cpl.ends hn .refl
    · exact listed_cpl.completes hn
        ((Change.refl.setReg .a _ (listed_cpl.mayReg .a (by simp))).writeFlags _) ⟨rfl, rfl, rfl, rfl⟩
  | scf =>
    rw [next_inj.1 e]
    exact listed_scf.completes (by simp) (Change.refl.writeFlags _) ⟨rfl, rfl, rfl, rfl⟩
  | ccf => exact answers_ccf e

/-- A call or restart of which the reads before the stack are made. -/
theorem callFrom_change {may : Part → Prop} {x : Word} (hsp : may .sp)
    (e : (s.reaches (s.sp - 1) = true ∧ s.reaches (s.sp - 1 - 1) = true)
      ∧ t = (s.pushed s.pc).setPc x) : Change may .nothing s t :=
  e.2 ▸ (Change.refl.pushed _ hsp).setPc _

/-- RET of which the reads before the stack are made. -/
theorem ret_change {may : Part → Prop} (hsp : may .sp)
    (e : (s.reaches s.sp = true ∧ s.reaches (s.sp + 1) = true)
      ∧ t = s.popped.setPc s.poppedWord) : Change may .nothing s t :=
  e.2 ▸ (Change.refl.popped hsp).setPc _

/-- A call or return that is taken reads its flag and then SP. -/
theorem condStackReads_taken {cc : Cond} {len : Nat} {Q : Prop} (hc : s.flags.cond cc = true)
    (hn : s.firstUnwritten (condReads cc) = none)
    (e : s.stopsUnread [.sp] len t ∨ s.firstUnwritten [.sp] = none ∧ Q) :
    s.stopsUnread (condStackReads cc s) len t ∨ s.firstUnwritten (condStackReads cc s) = none ∧ Q := by
  rw [condStackReads, if_pos hc]
  exact reads_append_iff.1 (.inr ⟨hn, e⟩)

theorem answers_retCc {cc : Cond} (e : retIf cc s = .next t) : Answers (Instr.retCc cc) s t := by
  have T := listed_retCc cc
  rcases reading_next_iff.1 e with ⟨n, hn, rfl⟩ | ⟨hn, e⟩
  · refine T.ends (n := n) ?_ .refl
    rw [condStackReads, State.firstUnwritten_append, hn, Option.some_or]
  · rcases ite_next_cases e with ⟨hc, e⟩ | ⟨hc, rfl⟩
    · exact T.answers (condStackReads_taken hc hn (ret_next_iff.1 e)) (ret_change (T.maySp rfl))
        FlagRow.gives_keeps
    · exact T.completes (by simp [condStackReads, hc, hn]) .refl FlagRow.gives_keeps

theorem answers_callCc {cc : Cond} {x : Word} (e : callIf cc x s = .next t) :
    Answers (Instr.callCc cc x) s t := by
  have T := listed_callCc cc x
  rw [callIf] at e
  split at e
  · rename_i hu
    exact T.completes (by simp [callReads, hu])
      (next_inj.1 e ▸ Change.refl.raiseIllegal _ _ (.inr ⟨cc, x, rfl⟩)) FlagRow.gives_keeps
  · rename_i hu
    have hreads : callReads cc s = condStackReads cc s := if_neg hu
    rcases reading_next_iff.1 e with ⟨n, hn, rfl⟩ | ⟨hn, e⟩
    · refine T.ends (n := n) ?_ .refl
      rw [hreads, condStackReads, State.firstUnwritten_append, hn, Option.some_or]
    · rcases ite_next_cases e with ⟨hc, e⟩ | ⟨hc, rfl⟩
      · have e := condStackReads_taken hc hn (callFrom_next_iff.1 e)
        rw [← hreads] at e
        exact T.answers e (callFrom_change (T.maySp rfl)) FlagRow.gives_keeps
      · exact T.completes (by simp [hreads, condStackReads, hc, hn]) .refl FlagRow.gives_keeps

/-- A relative or absolute jump that is taken or not. -/
theorem jump_change {may : Part → Prop} {c : Bool} {x : Word}
    (e : (if c then .next (s.setPc x) else .next s) = (.next t : Res State)) :
    Change may .nothing s t := by
  rcases ite_next_cases e with ⟨-, e⟩ | ⟨-, rfl⟩
  · exact next_inj.1 e ▸ Change.refl.setPc x
  · exact .refl

/-- Every instruction other than PREFIX CB. -/
theorem exec_answers (hi : i ≠ .prefixCb) : exec i s = .next t → Answers i s t := by
  cases i using Instr.byForm with
  | h_class01 d z =>
    intro e
    rw [exec_class01] at e
    split at e
    · rename_i h
      obtain ⟨rfl, rfl⟩ := h
      exact listed_halt.completes (by simp) (next_inj.1 e ▸ Change.refl.setHalted rfl) FlagRow.gives_keeps
    · rename_i h
      have T := listed_load h
      exact T.answers (ldR8R8_next_iff.1 e)
        (fun e => e.2 ▸ (Change.refl.afterR8 z).putR8 d _ T.mayReg) FlagRow.gives_keeps
  | h_aluR8 op r =>
    intro e
    rw [exec_aluR8] at e
    have T := listed_aluR8 op r
    have ha : op ≠ .cp → Part.Allowed (Instr.aluR8 op r) (.reg .a) := fun h =>
      T.mayReg .a (by cases op <;> simp_all [AluOp.regs])
    exact T.answersOperand rfl (aluR8_next_iff.1 e)
      (fun e => e ▸ (Change.refl.afterR8 r).alu op _ ha) (FlagRow.gives_alu ..)
  | h_aluN8 op n =>
    intro e
    rw [exec_aluN8] at e
    have T := listed_aluN8 op n
    have ha : op ≠ .cp → Part.Allowed (Instr.aluN8 op n) (.reg .a) := fun h =>
      T.mayReg .a (by cases op <;> simp_all [AluOp.regs])
    exact T.answers (reading_next_next_iff.1 e) (fun e => e ▸ Change.refl.alu op n ha)
      (FlagRow.gives_alu ..)
  | h_incR8 r =>
    intro e
    rw [exec_incR8] at e
    have T := listed_incR8 r
    exact T.answers (incR8_next_iff.1 e)
      (fun e => e.2 ▸ ((Change.refl.afterR8 r).putR8 r _ T.mayReg).writeFlags _) (FlagRow.gives_inc ..)
  | h_decR8 r =>
    intro e
    rw [exec_decR8] at e
    have T := listed_decR8 r
    exact T.answers (decR8_next_iff.1 e)
      (fun e => e.2 ▸ ((Change.refl.afterR8 r).putR8 r _ T.mayReg).writeFlags _) (FlagRow.gives_dec ..)
  | h_ldR8N8 r n =>
    intro e
    rw [exec_ldR8N8] at e
    have T := listed_ldR8N8 r n
    exact T.answers (ldR8N8_next_iff.1 e) (fun e => e.2 ▸ Change.refl.putR8 r n T.mayReg)
      FlagRow.gives_keeps
  | h_ldPairN16 p nn =>
    intro e
    rw [exec_ldPairN16] at e
    have T := listed_ldPairN16 p nn
    exact T.completes (by simp)
      (next_inj.1 e ▸ Change.refl.setPair p nn T.mayReg fun h => T.maySp (by simp [h]))
      FlagRow.gives_keeps
  | h_addHlPair p =>
    intro e
    rw [exec_addHlPair] at e
    have T := listed_addHlPair p
    exact T.answers (reading_next_next_iff.1 e)
      (fun e => e ▸ (Change.refl.setHl _ (T.mayReg .h (by simp)) (T.mayReg .l (by simp))).writeFlags _)
      (FlagRow.gives_addHl ..)
  | h_incPair p =>
    intro e
    rw [exec_incPair] at e
    have T := listed_incPair p
    exact T.answers (reading_next_next_iff.1 e)
      (fun e => e ▸ Change.refl.setPair p _ T.mayReg fun h => T.maySp (by simp [h]))
      FlagRow.gives_keeps
  | h_decPair p =>
    intro e
    rw [exec_decPair] at e
    have T := listed_decPair p
    exact T.answers (reading_next_next_iff.1 e)
      (fun e => e ▸ Change.refl.setPair p _ T.mayReg fun h => T.maySp (by simp [h]))
      FlagRow.gives_keeps
  | h_pushPair p =>
    intro e
    rw [exec_pushPair] at e
    have T := listed_pushPair p
    exact T.answers (pushPair_next_iff.1 e) (fun e => e.2 ▸ Change.refl.pushed _ (T.maySp rfl))
      FlagRow.gives_keeps
  | h_popPair p =>
    intro e
    rw [exec_popPair] at e
    have T := listed_popPair p
    exact T.answers (popPair_next_iff.1 e)
      (fun e => e.2 ▸ (Change.refl.popped (T.maySp rfl)).setStackPair p _ T.mayReg)
      (FlagRow.gives_pop ..)
  | h_storeInd p =>
    intro e
    rw [exec_storeInd] at e
    have T := listed_storeInd p
    exact T.answers (storeAInd_next_iff.1 e)
      (fun e => e.2 ▸ (Change.refl.store _ _).afterInd p T.mayReg) FlagRow.gives_keeps
  | h_loadInd p =>
    intro e
    rw [exec_loadInd] at e
    have T := listed_loadInd p
    exact T.answers (loadAInd_next_iff.1 e)
      (fun e => e.2 ▸ ((Change.refl.afterLoad _).setReg .a _ (T.mayReg .a (by simp))).afterInd p
        fun q hq => T.mayReg q (by simp [hq])) FlagRow.gives_keeps
  | h_accOp o => exact answers_accOp
  | h_jrCc cc x =>
    intro e
    rw [exec_jrCc] at e
    exact (listed_jrCc cc x).answers (reading_next_iff.1 e) jump_change FlagRow.gives_keeps
  | h_jpCc cc x =>
    intro e
    rw [exec_jpCc] at e
    exact (listed_jpCc cc x).answers (reading_next_iff.1 e) jump_change FlagRow.gives_keeps
  | h_callCc cc x => intro e; exact answers_callCc (exec_callCc s cc x ▸ e)
  | h_retCc cc => intro e; exact answers_retCc (exec_retCc s cc ▸ e)
  | h_rst y =>
    intro e
    rw [exec_rst] at e
    have T := listed_rst y
    exact T.answers (callFrom_next_iff.1 e) (callFrom_change (T.maySp rfl)) FlagRow.gives_keeps
  | h_rot o r =>
    intro e
    rw [exec_rot] at e
    have T := listed_rot o r
    exact T.answersOperand rfl (rotR8_next_iff.1 e)
      (fun e => e ▸ ((Change.refl.afterR8 r).putR8 r _ T.mayReg).setFlags _) (FlagRow.gives_rot ..)
  | h_bit b r =>
    intro e
    rw [exec_bit] at e
    exact (listed_bit b r).answers (bitR8_next_iff.1 e)
      (fun e => e.2 ▸ (Change.refl.afterR8 r).writeFlags _) (FlagRow.gives_bit ..)
  | h_res b r =>
    intro e
    rw [exec_res] at e
    have T := listed_res b r
    exact T.answers (resR8_next_iff.1 e)
      (fun e => e.2 ▸ (Change.refl.afterR8 r).putR8 r _ T.mayReg) FlagRow.gives_keeps
  | h_set b r =>
    intro e
    rw [exec_set] at e
    have T := listed_set b r
    exact T.answers (setR8_next_iff.1 e)
      (fun e => e.2 ▸ (Change.refl.afterR8 r).putR8 r _ T.mayReg) FlagRow.gives_keeps
  | h_nop =>
    intro e
    exact listed_nop.completes (by simp) (next_inj.1 e ▸ .refl) FlagRow.gives_keeps
  | h_stop =>
    intro e
    exact listed_stop.completes (by simp) (next_inj.1 e ▸ Change.refl.setStopped rfl)
      FlagRow.gives_keeps
  | h_di =>
    intro e
    exact listed_di.completes (by simp) (next_inj.1 e ▸ Change.refl.setIme _ (.inl rfl))
      FlagRow.gives_keeps
  | h_ei =>
    intro e
    exact listed_ei.completes (by simp) (next_inj.1 e ▸ Change.refl.setIme _ (.inr (.inl rfl)))
      FlagRow.gives_keeps
  | h_illegal op =>
    intro e
    refine .inr ⟨fun h => ?_, .nothing,
      next_inj.1 e ▸ Change.refl.raiseIllegal _ _ (.inl ⟨op, rfl⟩), fun h => ?_⟩
    · rw [Spec.reads, (listed_illegal h).reads]
      exact .inr nofun
    · rw [(listed_illegal h).row]
      exact FlagRow.gives_keeps
  | h_prefixCb => exact absurd rfl hi
  | h_ldAtA16Sp x =>
    intro e
    exact (listed_ldAtA16Sp x).answers (storeSp_next_iff.1 e)
      (fun e => e.2 ▸ (Change.refl.store _ _).store _ _) FlagRow.gives_keeps
  | h_jrE8 x =>
    intro e
    exact (listed_jrE8 x).completes (by simp) (next_inj.1 e ▸ Change.refl.setPc _) FlagRow.gives_keeps
  | h_ldhAtA8A n =>
    intro e
    exact (listed_ldhAtA8A n).answers (reading_next_iff.1 e)
      (fun e => (storeA_next_iff.1 e).2 ▸ Change.refl.store _ _) FlagRow.gives_keeps
  | h_ldhAAtA8 n =>
    intro e
    have T := listed_ldhAAtA8 n
    exact T.completes (by simp)
      ((loadA_next_iff.1 e).2 ▸ (Change.refl.afterLoad _).setReg .a _ (T.mayReg .a (by simp)))
      FlagRow.gives_keeps
  | h_ldAtCA =>
    intro e
    exact listed_ldAtCA.answers (reading_next_iff.1 e)
      (fun e => (storeA_next_iff.1 e).2 ▸ Change.refl.store _ _) FlagRow.gives_keeps
  | h_ldAAtC =>
    intro e
    exact listed_ldAAtC.answers (reading_next_iff.1 e)
      (fun e => (loadA_next_iff.1 e).2 ▸
        (Change.refl.afterLoad _).setReg .a _ (listed_ldAAtC.mayReg .a (by simp))) FlagRow.gives_keeps
  | h_ldAtA16A x =>
    intro e
    exact (listed_ldAtA16A x).answers (reading_next_iff.1 e)
      (fun e => (storeA_next_iff.1 e).2 ▸ Change.refl.store _ _) FlagRow.gives_keeps
  | h_ldAAtA16 x =>
    intro e
    have T := listed_ldAAtA16 x
    exact T.completes (by simp)
      ((loadA_next_iff.1 e).2 ▸ (Change.refl.afterLoad _).setReg .a _ (T.mayReg .a (by simp)))
      FlagRow.gives_keeps
  | h_addSpE8 x =>
    intro e
    have T := listed_addSpE8 x
    exact T.answers (reading_next_next_iff.1 e)
      (fun e => e ▸ (Change.refl.setSp _ (T.maySp rfl)).setFlags _) (FlagRow.gives_spOffset ..)
  | h_ldHlSpE8 x =>
    intro e
    have T := listed_ldHlSpE8 x
    exact T.answers (reading_next_next_iff.1 e)
      (fun e => e ▸ (Change.refl.setHl _ (T.mayReg .h (by simp)) (T.mayReg .l (by simp))).setFlags _)
      (FlagRow.gives_spOffset ..)
  | h_ldSpHl =>
    intro e
    exact listed_ldSpHl.answers (reading_next_next_iff.1 e)
      (fun e => e ▸ Change.refl.setSp _ (listed_ldSpHl.maySp rfl)) FlagRow.gives_keeps
  | h_ret =>
    intro e
    exact listed_ret.answers (ret_next_iff.1 e) (ret_change (listed_ret.maySp rfl)) FlagRow.gives_keeps
  | h_reti =>
    intro e
    exact listed_reti.answers (reti_next_iff.1 e)
      (fun e => e.2 ▸ ((Change.refl.popped (listed_reti.maySp rfl)).setPc _).setIme _
        (.inr (.inr rfl))) FlagRow.gives_keeps
  | h_jpHl =>
    intro e
    exact listed_jpHl.answers (reading_next_next_iff.1 e) (fun e => e ▸ Change.refl.setPc _)
      FlagRow.gives_keeps
  | h_jpA16 x =>
    intro e
    exact (listed_jpA16 x).completes (by simp) (next_inj.1 e ▸ Change.refl.setPc _) FlagRow.gives_keeps
  | h_callA16 x =>
    intro e
    have T := listed_callA16 x
    exact T.answers (callFrom_next_iff.1 e) (callFrom_change (T.maySp rfl)) FlagRow.gives_keeps

/-! ## The frames -/

/-- An unwritten read latches a fault and changes no other part. -/
theorem EndedAt.same_of_ne {n : RegName} {len : Nat} (h : EndedAt i s t u n len) (p : Part)
    (hp : p ≠ .fault) : p.Same s t := by
  rw [h.raised]
  refine (h.same p).trans ?_
  cases p with
  | fault => exact absurd rfl hp
  | _ => simp [Part.Same, State.raiseUnwritten]

/-- A part other than the fault latch changes only where the rule allows it. -/
theorem Answers.same (h : Answers i s t) (p : Part) (hp : p ≠ .fault) (hi : ¬ Part.Allowed i p) :
    p.Same s t := by
  rcases h with ⟨u, n, len, h⟩ | ⟨-, w, hc, -⟩
  · exact h.same_of_ne p hp
  · exact hc.same p hi

/-- Settles O54: an instruction that completes changes only the registers its rule writes, and one that
an unwritten read ends changes none. -/
theorem registerFrame : Obligations.RegisterFrame := by
  intro i s t hi e
  have h := exec_answers hi e
  simp only [isWritten_eq_get]
  refine ⟨fun r hr => h.same (.reg r) nofun hr, fun hsp => h.same .sp nofun ?_⟩
  simp [Part.Allowed, hsp]

/-! ### IME, `stopped`, `halted` and the fault latch -/

/-- What the frame of the control state says of one instruction. -/
structure ControlFramed (i : Instr) (s t : State) : Prop where
  ime : t.ime ≠ s.ime → i = .di ∨ i = .ei ∨ i = .reti
  stopped : t.stopped ≠ s.stopped → i = .stop
  halted : t.halted ≠ s.halted → i = .halt
  fault : t.fault ≠ s.fault → (∃ op, i = .illegal op) ∨ (∃ cc x, i = Instr.callCc cc x)
    ∨ (s.config.resetRegs = .noValue
      ∧ ∃ n x, t.fault = some (.unwrittenRead n x) ∧ Spec.isWritten s n = false)

theorem Answers.controlFramed (h : Answers i s t) : ControlFramed i s t where
  ime hne := by_contra fun hi => hne (h.same .ime nofun hi)
  stopped hne := by_contra fun hi => hne (h.same .stopped nofun hi)
  halted hne := by_contra fun hi => hne (h.same .halted nofun hi)
  fault hne := by
    rcases h with ⟨u, n, len, h⟩ | ⟨-, w, hc, -⟩
    · obtain ⟨hno, hn, -⟩ := State.firstUnwritten_eq_some_iff.1 h.unwritten
      refine .inr (.inr ⟨hno, n, _, congrArg State.fault h.raised, ?_⟩)
      rw [isWritten_eq_get, hn]
    · have hi : Part.Allowed i .fault := by_contra fun hi => hne (hc.same .fault hi)
      exact or_assoc.1 (.inl hi)

/-- The rule of an extended byte is the meaning of the instruction it decodes to (30_encoding.md R135). -/
theorem extendedRule_eq_exec (b : Byte) (s : State) :
    extendedRule b s = exec (decodeExtended b) s := by
  have hy : (index8 (fieldY b)).val = fieldY b := Nat.mod_eq_of_lt (b.extractLsb' 3 3).isLt
  have hx : fieldX b < 4 := (b.extractLsb' 6 2).isLt
  have hcases : fieldX b = 0 ∨ fieldX b = 1 ∨ fieldX b = 2 ∨ fieldX b = 3 := by omega
  rcases hcases with h | h | h | h
  · simp only [extendedRule, decodeExtended, h, exec_rot]
  · simp only [extendedRule, decodeExtended, h, exec_bit, hy]
  · simp only [extendedRule, decodeExtended, h, exec_res, hy]
  · simp only [extendedRule, decodeExtended, h, exec_set, hy]

/-- An extended instruction has two bytes (30_encoding.md R120). -/
theorem length_encode_decodeExtended : ∀ b : Byte, (encode (decodeExtended b)).length = 2 := by
  decide

/-- The fetch of the extended byte touches no part of the CPU core, and no instruction of two bytes
changes the control state but by an unwritten read. -/
theorem ControlFramed.of_extended {j : Instr} (hj : (encode j).length = 2)
    (h : ControlFramed j ((s.afterLoad s.pc).setPc (s.pc + 1)) t) : ControlFramed .prefixCb s t where
  ime hne := by rcases h.ime (by simpa using hne) with rfl | rfl | rfl <;> cases hj
  stopped hne := by cases h.stopped (by simpa using hne); cases hj
  halted hne := by cases h.halted (by simpa using hne); cases hj
  fault hne := by
    rcases h.fault (by simpa using hne) with ⟨op, rfl⟩ | ⟨cc, x, rfl⟩ | h
    · cases hj
    · cases cc <;> cases hj
    · exact .inr (.inr (by simpa [isWritten_eq_get] using h))

/-- PREFIX CB runs the extended instruction it selects (40_step_and_system.md R210). -/
theorem controlFramed_prefixCb (e : prefixExtended s = .next t) : ControlFramed .prefixCb s t := by
  simp only [prefixExtended, fetchImm8, andThen_eq_next, memRead_next_iff, next_inj] at e
  obtain ⟨_, ⟨_, ⟨-, rfl⟩, rfl⟩, e⟩ := e
  rw [State.afterLoad_pc, extendedRule_eq_exec] at e
  have hj := length_encode_decodeExtended (s.loadByte s.pc)
  have hne : decodeExtended (s.loadByte s.pc) ≠ .prefixCb := fun h => by rw [h] at hj; cases hj
  exact (exec_answers hne e).controlFramed.of_extended hj

/-- Settles O53: an instruction that completes changes what its rule allows, one that an unwritten read
ends raises that fault, and PREFIX CB is the extended instruction it selects. -/
theorem controlStateFrame : Obligations.ControlStateFrame := by
  intro i s t e
  suffices h : ControlFramed i s t from ⟨h.ime, h.stopped, h.halted, h.fault⟩
  by_cases hi : i = .prefixCb
  · subst hi
    exact controlFramed_prefixCb e
  · exact (exec_answers hi e).controlFramed

/-! ### Flags -/

/-- A cell of the table of 10_state.md R23 holds of a flag written as the cell describes. -/
theorem GivesFlag.holds {cell : Spec.FlagCell} {o : Option Bool} (h : GivesFlag cell o)
    {f : FlagName} {flag : Flags → Bool} (hflag : flag t.flags = o.getD (flag s.flags))
    (hmark : t.written.get (.flag f) = (s.written.get (.flag f) || o.isSome)) :
    cell.holds s t f flag := by
  simp only [Spec.FlagCell.holds, isWritten_eq_get, hflag, hmark]
  cases cell <;> simp_all [GivesFlag, Spec.FlagCell.allows]

/-- Settles O55: an instruction that completes writes the flags as its row says, and one that an unwritten
read ends leaves them as CCF's first writes do. -/
theorem flagFrame : Obligations.FlagFrame := by
  intro i s t hwf hi e
  rcases exec_answers hi e with ⟨u, n, len, h⟩ | ⟨hread, w, hc, hrow⟩
  · have hcannot : ¬ Spec.canRead s (Spec.reads i s) := by simp [canRead_iff, h.unwritten]
    refine ⟨fun hr => absurd hr hcannot, fun _ => ⟨?_, fun f => ?_⟩⟩
    · rw [h.raised]; exact h.flags
    · rw [isWritten_eq_get, isWritten_eq_get, h.raised]; exact h.marks f
  · obtain ⟨hz, hn, hh, hcarry⟩ := hrow hwf
    refine ⟨fun _ => ⟨hz.holds ?_ (hc.marks .z), hn.holds ?_ (hc.marks .n),
      hh.holds ?_ (hc.marks .h), hcarry.holds ?_ (hc.marks .c)⟩, fun hr => absurd (hread hwf) hr⟩ <;>
    rw [hc.flags] <;> rfl

end Sys2Proof.Machine

/-! # The Bus and the cartridge (the family of 20_memory.md)

Where each window of the address space goes, what a read and a write of a type-1 cartridge do, and what
a store leaves unchanged; the statements on the Bus follow. -/

namespace Sys2Proof.Machine

/-! ## The translation, window by window (20_memory.md R61 to R71) -/

section Translation

variable {m : EchoMode} {boot : Bool} {x : Word} {d : Device} {k : Nat}

theorem translateAddress_bootOverlay (h : x.toNat ≤ 0x00FF) :
    translateAddress m true x = (.lent .bootOverlay, x.toNat) := by
  simp (disch := omega) only [translateAddress, if_pos, if_true]

theorem translateAddress_bootOff (h : x.toNat ≤ 0x00FF) :
    translateAddress m false x = (.cartridge, x.toNat) := by
  simp (disch := omega) only [translateAddress, if_pos, Bool.false_eq_true, if_false]

theorem translateAddress_rom (h : 0x0100 ≤ x.toNat) (h' : x.toNat ≤ 0x7FFF) :
    translateAddress m boot x = (.cartridge, x.toNat) := by
  simp (disch := omega) only [translateAddress, if_neg, if_pos]

theorem translateAddress_videoRam (h : 0x8000 ≤ x.toNat) (h' : x.toNat ≤ 0x9FFF) :
    translateAddress m boot x = (.lent .videoRam, x.toNat - 0x8000) := by
  simp (disch := omega) only [translateAddress, if_neg, if_pos]

theorem translateAddress_cartRam (h : 0xA000 ≤ x.toNat) (h' : x.toNat ≤ 0xBFFF) :
    translateAddress m boot x = (.cartridge, x.toNat - 0xA000 + 0x8000) := by
  simp (disch := omega) only [translateAddress, if_neg, if_pos]

theorem translateAddress_workRam (h : 0xC000 ≤ x.toNat) (h' : x.toNat ≤ 0xDFFF) :
    translateAddress m boot x = (.workRam, x.toNat - 0xC000) := by
  simp (disch := omega) only [translateAddress, if_neg, if_pos]

theorem translateAddress_echo (h : 0xE000 ≤ x.toNat) (h' : x.toNat ≤ 0xFDFF) :
    translateAddress m boot x = translateEcho m x.toNat := by
  simp (disch := omega) only [translateAddress, if_neg, if_pos]

theorem translateAddress_oam (h : 0xFE00 ≤ x.toNat) (h' : x.toNat ≤ 0xFE9F) :
    translateAddress m boot x = (.lent .oam, x.toNat - 0xFE00) := by
  simp (disch := omega) only [translateAddress, if_neg, if_pos]

theorem translateAddress_dummy (h : 0xFEA0 ≤ x.toNat) (h' : x.toNat ≤ 0xFEFF) :
    translateAddress m boot x = (.dummy, 0) := by
  simp (disch := omega) only [translateAddress, if_neg, if_pos]

theorem translateAddress_io (h : 0xFF00 ≤ x.toNat) (h' : x.toNat ≤ 0xFF7F) :
    translateAddress m boot x = (.lent .io, x.toNat - 0xFF00) := by
  simp (disch := omega) only [translateAddress, if_neg, if_pos]

theorem translateAddress_highRam (h : 0xFF80 ≤ x.toNat) :
    translateAddress m boot x = (.highRam, x.toNat - 0xFF80) := by
  simp (disch := omega) only [translateAddress, if_neg]

theorem translateEcho_sourceArith_low {n : Nat} (h : n ≤ 0xEFFF) :
    translateEcho .sourceArith n = (.noMeaning, 0) := if_pos (by omega)

theorem translateEcho_sourceArith_high {n : Nat} (h : 0xF000 ≤ n) :
    translateEcho .sourceArith n = (.workRam, n - 0xF000) := if_neg (by omega)

theorem lt_windowSize_of_translateAddress (h : translateAddress m boot x = (d, k)) :
    k < windowSize d := by
  have := translate_lt m boot x
  rwa [h] at this

end Translation

/-- Settles O37: one lemma per window, and every offset is inside its device's window. -/
theorem translationTable : Obligations.TranslationTable := by
  intro m boot x
  refine ⟨?boot, ?bootOff, translateAddress_rom, translateAddress_videoRam, translateAddress_cartRam,
    translateAddress_workRam, ?mirror, ?refused, ?arith, translateAddress_oam, ?dummy,
    translateAddress_io, translateAddress_highRam, ?_, ?_, ?_, ?_, ?_⟩
  case boot => rintro h rfl; exact translateAddress_bootOverlay h
  case bootOff => rintro h rfl; exact translateAddress_bootOff h
  case mirror => rintro h h' rfl; exact translateAddress_echo h h'
  case refused =>
    rintro h h' rfl
    rw [translateAddress_echo h (by omega), translateEcho_sourceArith_low h']
  case arith =>
    rintro h h' rfl
    rw [translateAddress_echo (by omega) h', translateEcho_sourceArith_high h]
  case dummy => exact fun h h' => congrArg Prod.fst (translateAddress_dummy h h')
  all_goals exact fun k h => Nat.le_of_lt_succ (lt_windowSize_of_translateAddress h)

variable {s t : State} {x y : Word} {v : Byte}

/-! ## `boot_active` (20_memory.md R72) -/

theorem bootActive_of_access (h : memRead x s = .next (v, t) ∨ memWrite x v s = .next t) :
    t.bootActive = (s.bootActive && decide (x ≠ 0x0100)) := by
  rcases h with h | h
  · obtain ⟨-, e⟩ := memRead_next_iff.1 h
    rw [(Prod.mk.inj e).2, State.afterLoad_bootActive]
  · rw [(memWrite_next_iff.1 h).2, State.store_bootActive]

/-- A store does not set it. -/
theorem State.bootActive_of_store (h : (s.store x v).bootActive = true) : s.bootActive = true := by
  rw [State.store_bootActive, Bool.and_eq_true] at h; exact h.1

/-- A read does not set it. -/
theorem State.bootActive_of_afterLoad (h : (s.afterLoad x).bootActive = true) :
    s.bootActive = true := by
  rw [State.afterLoad_bootActive, Bool.and_eq_true] at h; exact h.1

/-- No named update of a state sets `boot_active`. -/
theorem kept_bootOff (s : State) : Kept fun t => t.bootActive = true → s.bootActive = true where
  setReg t r v h := by simpa using h
  setBc _ _ h := h
  setDe _ _ h := h
  setHl _ _ h := h
  setSp _ _ h := h
  setPc _ _ h := h
  writeFlags _ _ h := h
  setStopped _ h := h
  setHalted _ h := h
  setIme _ _ h := h
  raise _ _ _ h := h
  afterLoad t x h hb := h (State.bootActive_of_afterLoad hb)
  store t x v h hb := h (State.bootActive_of_store hb)

/-- Settles O38: an access touches `boot_active` at 0x0100 only, and no named update sets it. -/
theorem accessOfHundredClearsBoot : Obligations.AccessOfHundredClearsBoot := by
  refine ⟨fun s t x v h => ?_, fun s => translateAddress_rom (by decide) (by decide),
    fun s t e => (kept_bootOff s).step id e⟩
  rw [bootActive_of_access h]
  by_cases hx : x = 0x0100 <;> simp [hx, Bool.and_comm]

/-! ## Accesses that complete, and accesses of one byte by two addresses (20_memory.md R67) -/

/-- The address has a meaning outside 0xE000-0xEFFF, and everywhere with TRUE_MIRROR. -/
theorem State.reaches_of_meaning
    (h : s.config.echo = .trueMirror ∨ x.toNat < 0xE000 ∨ 0xEFFF < x.toNat) : s.reaches x = true := by
  refine Bool.eq_true_of_not_eq_false fun hr => ?_
  obtain ⟨hecho, hlow, hhigh⟩ := (State.reaches_eq_false_iff s x).1 hr
  rcases h with h | h
  · rw [hecho] at h; cases h
  · omega

/-- Settles O39: the refusal is exactly `reaches` being false. -/
theorem onlyTheSourceEchoIsRefused : Obligations.OnlyTheSourceEchoIsRefused := by
  refine fun s x v => ⟨fun hecho hlow hhigh => ?_, fun h => ?_⟩
  · have hr : ¬ s.reaches x = true := by
      rw [(State.reaches_eq_false_iff s x).2 ⟨hecho, hlow, by omega⟩]; exact Bool.false_ne_true
    exact ⟨if_neg hr, if_neg hr⟩
  · have hr := State.reaches_of_meaning h
    exact ⟨⟨_, memRead_eq s hr⟩, _, memWrite_eq s v hr⟩

/-- Two addresses of one byte, neither of them 0x0100, are one access. -/
theorem access_eq_of_target_eq (h : s.target x = s.target y) (hr : s.reaches x = true)
    (hx : x ≠ 0x0100) (hy : y ≠ 0x0100) :
    memRead x s = memRead y s ∧ ∀ v, memWrite x v s = memWrite y v s := by
  have hr' : s.reaches y = true := by rw [State.reaches, ← h]; exact hr
  refine ⟨?_, fun v => ?_⟩
  · rw [memRead_eq s hr, memRead_eq s hr']
    simp only [State.loadByte, State.afterLoad, State.touch_of_ne s hx, State.touch_of_ne s hy, h]
  · rw [memWrite_eq s v hr, memWrite_eq s v hr']
    simp only [State.store, State.touch_of_ne s hx, State.touch_of_ne s hy, h]

theorem ne_hundred_of_le (h : 0x8000 ≤ x.toNat) : x ≠ 0x0100 := by rintro rfl; revert h; decide

/-- With TRUE_MIRROR the echo is work RAM 0x2000 below. -/
theorem State.target_mirror (hecho : s.config.echo = .trueMirror) (h : 0xE000 ≤ x.toNat)
    (h' : x.toNat ≤ 0xFDFF) : s.target x = s.target (x - 0x2000) := by
  have hsub : (x - 0x2000).toNat = x.toNat - 0x2000 := by bv_omega
  rw [State.target_echo h (by omega), State.target_workRam (by omega) (by omega), hecho, hsub,
    Nat.sub_sub]
  rfl

/-- With SOURCE_ARITH 0xF000-0xFDFF is work RAM 0x3000 below. -/
theorem State.target_sourceArith (hecho : s.config.echo = .sourceArith) (h : 0xF000 ≤ x.toNat)
    (h' : x.toNat ≤ 0xFDFF) : s.target x = s.target (x - 0x3000) := by
  have hsub : (x - 0x3000).toNat = x.toNat - 0x3000 := by bv_omega
  rw [State.target_echo (by omega) (by omega), State.target_workRam (by omega) (by omega), hecho,
    translateEcho_sourceArith_high h, hsub, Nat.sub_sub]

/-- Settles O40: RAM reads back the write, and the echo is another address of the same byte. -/
theorem ramReadsBackTheWrite : Obligations.RamReadsBackTheWrite := by
  refine fun s x v => ⟨fun hram hmeaning => ?_, fun hecho h h' => ?_, fun hecho h h' => ?_⟩
  · have hr := State.reaches_of_meaning hmeaning
    refine ⟨s.store x v, (s.store x v).afterLoad x, memWrite_eq s v hr, ?_⟩
    rw [memRead_eq _ (by simpa using hr), State.loadByte_store_same hram hr]
  · have hsub : (x - 0x2000).toNat = x.toNat - 0x2000 := by bv_omega
    obtain ⟨hread, hwrite⟩ := access_eq_of_target_eq (State.target_mirror hecho h h')
      (State.reaches_of_trueMirror s hecho x) (ne_hundred_of_le (by omega))
      (ne_hundred_of_le (by omega))
    exact ⟨hread, hwrite v⟩
  · have hsub : (x - 0x3000).toNat = x.toNat - 0x3000 := by bv_omega
    obtain ⟨hread, hwrite⟩ := access_eq_of_target_eq (State.target_sourceArith hecho h h')
      (State.reaches_of_meaning (.inr (.inr (by omega)))) (ne_hundred_of_le (by omega))
      (ne_hundred_of_le (by omega))
    exact ⟨hread, hwrite v⟩

end Sys2Proof.Machine

/-! # The type-1 bank controller and the devices of the Bus (the family of 20_memory.md)

What a read and a write at each local address of the controller do (20_memory.md R84 to R92), and the
statements on the cartridge, the Dummies and the lent ports. -/

namespace Sys2Proof.Machine

variable {s t : State} {c : Type1} {x y : Word} {v : Byte} {n k : Nat}

/-! ## The controller by its windows (20_memory.md R84 to R92) -/

section Type1

variable (c v)

theorem Type1.read_fixed (h : n ≤ 0x3FFF) : c.read n = c.slotByte 0 n := if_pos (by omega)

theorem Type1.read_switchable (h : 0x4000 ≤ n) (h' : n ≤ 0x7FFF) :
    c.read n = c.slotByte c.switchSlot (n - 0x4000) := by
  simp (disch := omega) only [Type1.read, if_neg, if_pos]

theorem Type1.read_ram (h : 0x8000 ≤ n) : c.read n =
    if c.ramEnabled then c.bankByte c.ramBank (n - 0x8000) else 0x00 := by
  simp (disch := omega) only [Type1.read, if_neg]

theorem Type1.write_ramEnable (h : n ≤ 0x1FFF) :
    c.write n v = { c with ramEnable := v.extractLsb' 0 4 } := if_pos (by omega)

theorem Type1.write_romSelect (h : 0x2000 ≤ n) (h' : n ≤ 0x3FFF) :
    c.write n v = { c with romSelect := clampRomSelect v } := by
  simp (disch := omega) only [Type1.write, if_neg, if_pos]

theorem Type1.write_banksetSelect (h : 0x4000 ≤ n) (h' : n ≤ 0x5FFF) :
    c.write n v = { c with banksetSelect := v.extractLsb' 0 2 } := by
  simp (disch := omega) only [Type1.write, if_neg, if_pos]

theorem Type1.write_modeSelect (h : 0x6000 ≤ n) (h' : n ≤ 0x7FFF) :
    c.write n v = { c with modeSelect := v.extractLsb' 0 1 } := by
  simp (disch := omega) only [Type1.write, if_neg, if_pos]

theorem Type1.write_enabledRam (h : 0x8000 ≤ n) (he : c.ramEnabled = true) : c.write n v =
    { c with ram := c.ram.store unlistedRam (ramKey c.ramBank (n - 0x8000)) v } := by
  simp (disch := omega) only [Type1.write, if_neg, he, if_true]

theorem Type1.write_disabledRam (h : 0x8000 ≤ n) (he : c.ramEnabled = false) : c.write n v = c := by
  simp (disch := omega) only [Type1.write, if_neg, he, Bool.false_eq_true, if_false]

theorem Type1.ramEnabled_iff : c.ramEnabled = true ↔ c.ramEnable = 0xA := beq_iff_eq

/-- `rom_select` has five bits, so joining `bankset_select` above them is a sum (20_memory.md R85). -/
theorem Type1.switchSlot_eq : c.switchSlot = if c.modeSelect = 0
    then c.romSelect.toNat + 32 * c.banksetSelect.toNat else c.romSelect.toNat := by
  have hr : c.romSelect.toNat < 2 ^ 5 := c.romSelect.isLt
  rw [Type1.switchSlot]
  split
  · rw [Nat.or_comm, ← Nat.shiftLeft_add_eq_or_of_lt hr, Nat.shiftLeft_eq]; omega
  · exact Nat.or_zero _

/-- The slots that hold no data of their own (20_memory.md R81). -/
theorem Type1.slotByte_shared (h : k = 32 ∨ k = 64 ∨ k = 96) (o : Nat) :
    c.slotByte k o = c.slotByte 0 o := by
  have hkey : romKey k o = romKey 0 o := by simp [romKey, h]
  simp only [Type1.slotByte, hkey]

/-- A write to external RAM leaves every other byte of the controller (20_memory.md R91). -/
theorem Type1.read_write_other (hn : 0x8000 ≤ n) (hn' : n ≤ 0x9FFF) (hk : k ≤ 0x9FFF) (hne : k ≠ n) :
    (c.write n v).read k = c.read k := by
  cases he : c.ramEnabled with
  | false => rw [c.write_disabledRam v hn he]
  | true =>
    rw [c.write_enabledRam v hn he]
    by_cases hram : 0x8000 ≤ k
    · have hoff : k - 0x8000 ≠ n - 0x8000 := by omega
      have hbyte := c.bankByte_storeRam c.ramBank (n - 0x8000) c.ramBank (k - 0x8000) v
        (by rw [ramBankSize]; omega) (by rw [ramBankSize]; omega)
      rw [if_neg fun h => hoff h.2] at hbyte
      rw [Type1.read_ram _ hram, Type1.read_ram _ hram]
      exact congrArg (if c.ramEnabled then · else 0x00) hbyte
    · by_cases hfix : k ≤ 0x3FFF
      · rw [Type1.read_fixed _ hfix, Type1.read_fixed _ hfix]; rfl
      · rw [Type1.read_switchable _ (by omega) (by omega),
          Type1.read_switchable _ (by omega) (by omega)]
        rfl

end Type1

theorem Cartridge.read_write_other (d : Cartridge) (v : Byte) (hn : 0x8000 ≤ n) (hn' : n ≤ 0x9FFF)
    (hk : k ≤ 0x9FFF) (hne : k ≠ n) : (d.write n v).read k = d.read k := by
  cases d with
  | dummy => rfl
  | type1 c => exact c.read_write_other v hn hn' hk hne

/-! ## Where the cartridge answers (20_memory.md R62 to R65) -/

theorem State.target_rom (hboot : s.bootActive = false ∨ 0x00FF < x.toNat) (h : x.toNat ≤ 0x7FFF) :
    s.target x = (.cartridge, x.toNat) := by
  rcases Nat.lt_or_ge 0x00FF x.toNat with hx | hx
  · exact translateAddress_rom hx h
  · rw [State.target_low s (by omega), hboot.resolve_right (by omega)]; rfl

theorem State.target_cartRam (h : 0xA000 ≤ x.toNat) (h' : x.toNat ≤ 0xBFFF) :
    s.target x = (.cartridge, x.toNat - 0xA000 + 0x8000) := translateAddress_cartRam h h'

/-- Above the ROM windows the cartridge answers at external RAM only. -/
theorem State.le_of_target_cartridge (hx : 0x8000 ≤ x.toNat) (h : s.target x = (.cartridge, n)) :
    0x8000 ≤ n := by
  rcases Nat.lt_or_ge x.toNat 0xC000 with hlow | hhigh
  · rcases Nat.lt_or_ge x.toNat 0xA000 with hvideo | hram
    · have htarget : s.target x = _ := translateAddress_videoRam hx (by omega)
      cases htarget.symm.trans h
    · have htarget : s.target x = _ := translateAddress_cartRam hram (by omega)
      cases htarget.symm.trans h
      omega
  · refine absurd (congrArg Prod.fst h) ?_
    simp (disch := omega) only [State.target, translateAddress, if_neg]
    cases s.config.echo <;> simp only [translateEcho] <;> (repeat' split) <;> exact nofun

theorem State.loadByte_of_cartridge (hc : s.cart = .type1 c) (h : s.target x = (.cartridge, n)) :
    s.loadByte x = c.read n := by
  rw [State.loadByte_eq s h, State.deviceByte, hc, Cartridge.read]

theorem State.store_of_cartridge (hc : s.cart = .type1 c) (h : s.target x = (.cartridge, n)) :
    s.store x v = { s.touch x with cart := .type1 (c.write n v) } := by
  rw [State.store_eq s h, State.deviceWrite, State.touch_cart, hc, Cartridge.write]

/-- The low bits of a byte, as a number modulo a power of two (00_scope.md R9). -/
theorem extractLsb'_zero_eq_ofNat (v : Byte) (w : Nat) :
    v.extractLsb' 0 w = BitVec.ofNat w (v.toNat % 2 ^ w) :=
  BitVec.eq_of_toNat_eq (by simp)

theorem clampRomSelect_eq_ofNat (v : Byte) : clampRomSelect v =
    BitVec.ofNat 5 (if v.toNat % 32 = 0 then 1 else v.toNat % 32) := by
  have hzero : BitVec.ofNat 5 (v.toNat % 32) = 0 ↔ v.toNat % 32 = 0 := by
    rw [← BitVec.toNat_inj]; simp
  rw [clampRomSelect, extractLsb'_zero_eq_ofNat]
  split <;> simp_all

/-- A write below 0x8000, by its window (20_memory.md R87 to R90). -/
theorem Type1.write_register (h : n ≤ 0x7FFF) : c.write n v =
    if n ≤ 0x1FFF then { c with ramEnable := BitVec.ofNat 4 (v.toNat % 16) }
    else if n ≤ 0x3FFF then
      { c with romSelect := BitVec.ofNat 5 (if v.toNat % 32 = 0 then 1 else v.toNat % 32) }
    else if n ≤ 0x5FFF then { c with banksetSelect := BitVec.ofNat 2 (v.toNat % 4) }
    else { c with modeSelect := BitVec.ofNat 1 (v.toNat % 2) } := by
  have hlow := extractLsb'_zero_eq_ofNat v
  split
  next h1 => rw [c.write_ramEnable v h1, hlow]; rfl
  next h1 =>
    split
    next h2 => rw [c.write_romSelect v (by omega) h2, clampRomSelect_eq_ofNat]
    next h2 =>
      split
      next h3 => rw [c.write_banksetSelect v (by omega) h3, hlow]; rfl
      next h3 => rw [c.write_modeSelect v (by omega) h, hlow]; rfl

/-- Settles O42: the target is the cartridge at the address itself, and the controller writes the
register of that window. -/
theorem romWritesSetABankRegister : Obligations.RomWritesSetABankRegister := by
  intro s t c x v hc hw hx hboot n r5
  rw [(memWrite_next_iff.1 hw).2, State.store_of_cartridge hc (State.target_rom hboot hx),
    Type1.write_register hx]
  rfl

/-- Settles O43: each clause is the controller's read at the local address of its window. -/
theorem type1ReadWindows : Obligations.Type1ReadWindows := by
  intro s c x hc n slot bank
  have hslot : c.switchSlot = slot := c.switchSlot_eq
  refine ⟨fun hboot h => ?_, fun h h' => ?_, fun h h' he => ?_, fun h h' he => ?_,
    fun k => c.slotByte_shared, fun hr => ?_⟩
  · rw [State.loadByte_of_cartridge hc (State.target_rom hboot (by omega)), c.read_fixed h]
  · rw [State.loadByte_of_cartridge hc (State.target_rom (.inr (by omega)) h'),
      c.read_switchable h h', hslot]
  · rw [State.loadByte_of_cartridge hc (State.target_cartRam h h'), c.read_ram (by omega),
      if_pos (c.ramEnabled_iff.2 he), Nat.add_sub_cancel]
    rfl
  · rw [State.loadByte_of_cartridge hc (State.target_cartRam h h'), c.read_ram (by omega),
      if_neg (mt c.ramEnabled_iff.1 he)]
  · have hne : c.romSelect.toNat ≠ 0 := fun h => hr (BitVec.eq_of_toNat_eq h)
    have hlt : c.romSelect.toNat < 32 := c.romSelect.isLt
    have hlt' : c.banksetSelect.toNat < 4 := c.banksetSelect.isLt
    simp only [slot]
    split <;> omega

/-- Settles O44: the write is discarded, or stores the byte of the selected bank that the same address
then reads. -/
theorem externalRamIsGated : Obligations.ExternalRamIsGated := by
  intro s t c x v hc h h' hw
  have htarget : ∀ u : State, u.target x = (.cartridge, x.toNat - 0xA000 + 0x8000) := fun u =>
    State.target_cartRam h h'
  rw [(memWrite_next_iff.1 hw).2, State.store_of_cartridge hc (htarget s),
    State.touch_of_ne s (ne_hundred_of_le (by omega))]
  refine ⟨fun he => ?_, fun he => ?_⟩
  · rw [c.write_disabledRam v (by omega) (Bool.eq_false_iff.2 (mt c.ramEnabled_iff.1 he)), ← hc]
  · have hen := c.ramEnabled_iff.2 he
    rw [c.write_enabledRam v (by omega) hen, Nat.add_sub_cancel]
    have hbyte (b o : Nat) (ho : o < 0x2000) :=
      c.bankByte_storeRam c.ramBank (x.toNat - 0xA000) b o v (by rw [ramBankSize]; omega) ho
    refine ⟨?_, _, rfl, hbyte⟩
    rw [State.loadByte_of_cartridge rfl (htarget _), Type1.read_ram _ (by omega), Nat.add_sub_cancel]
    exact (if_pos hen).trans ((hbyte c.ramBank _ (by omega)).trans (if_pos ⟨rfl, rfl⟩))

/-! ## The Dummies and the lent ports (20_memory.md R69, R82, R95, R97) -/

section Access

variable {d : Device} (h : s.target x = (d, n)) (hd : d ≠ .noMeaning)
include h hd

theorem State.reaches_of_target : s.reaches x = true := by
  rw [State.reaches, h]; exact decide_eq_true hd

/-- An access by the device it reaches (20_memory.md R73, R74). -/
theorem memRead_of_target :
    memRead x s = .next (s.deviceByte d n, (s.touch x).afterDeviceRead d) := by
  rw [memRead_eq s (State.reaches_of_target h hd), State.loadByte_eq s h, State.afterLoad_eq s h]

theorem memWrite_of_target (v : Byte) :
    memWrite x v s = .next ((s.touch x).deviceWrite d n v) := by
  rw [memWrite_eq s v (State.reaches_of_target h hd), State.store_eq s h]

end Access

/-- Settles O45: both Dummies answer 0x00 and keep nothing, so only `boot_active` is touched. -/
theorem dummiesReadZero : Obligations.DummiesReadZero := by
  intro s x v h t
  rcases h with ⟨h, h'⟩ | ⟨hd, hc⟩
  · have htarget : s.target x = (.dummy, 0) := translateAddress_dummy h h'
    exact ⟨memRead_of_target htarget nofun, memWrite_of_target htarget nofun v⟩
  · have htarget : s.target x = (.cartridge, (s.target x).2) := by rw [← hd]
    rw [memRead_of_target htarget nofun, memWrite_of_target htarget nofun]
    simp only [State.deviceByte, State.deviceWrite, State.touch_cart, hc, Cartridge.read, Cartridge.write]
    exact ⟨rfl, by rw [← hc]; rfl⟩

/-- What a write to a lent device keeps of it (20_memory.md R97). -/
theorem State.promised_lentWrite (s : State) (l : Lent) (n : Nat) (v : Byte) :
    ((s.lentWrite l n v).ports.get l).promised.read n =
      if (s.ports.get l).keepsWrites then some v else (s.ports.get l).promised.read n := by
  simp only [State.lentWrite, Ports.get_set_same]
  split <;> simp

/-- Settles O46: no lent device is behind 0x0100, so its port is the whole access. -/
theorem lentPorts : Obligations.LentPorts := by
  intro s x v l n h
  have hx : x ≠ 0x0100 := by
    rintro rfl
    have hcart : s.target 0x0100 = (.cartridge, 0x0100) := State.target_rom (.inr (by decide)) (by decide)
    rw [hcart] at h
    cases h
  refine ⟨s.lentByte l n, ?_, fun w hw => ?_, s.lentWrite l n v, ?_, rfl, s.promised_lentWrite l n v⟩
  · rw [memRead_of_target h nofun, State.touch_of_ne s hx]
    rfl
  · simp only [State.lentByte, hw]
  · rw [memWrite_of_target h nofun, State.touch_of_ne s hx]
    rfl

end Sys2Proof.Machine

/-! # What a store leaves unchanged (the family of 20_memory.md) -/

namespace Sys2Proof.Machine

variable {s t : State} {x y : Word} {v : Byte} {n k : Nat} {d e : Device}

/-! ## One store (20_memory.md R74, R76, R91, R102) -/

/-- A write to a lent device leaves every other byte of the lent devices. -/
theorem State.lentByte_lentWrite_other {l m : Lent} (hne : (Device.lent l, k) ≠ (.lent m, n))
    (v : Byte) :
    (s.lentWrite m n v).lentByte l k = s.lentByte l k := by
  have hread : ((s.lentWrite m n v).ports.get l).promised.read k
      = (s.ports.get l).promised.read k := by
    by_cases h : l = m
    · subst h
      have hk : k ≠ n := fun h => hne (by rw [h])
      simp only [State.lentWrite, Ports.get_set_same]
      split
      · exact Memory.read_store_other unlistedRam (s.ports.get l).promised v hk
      · rfl
    · simp only [State.lentWrite, Ports.get_set_other _ _ h]
  simp only [State.lentByte, hread]
  rfl

/-- A store to a device changes no byte but the one it reaches, the bank registers apart. -/
theorem State.deviceByte_deviceWrite_other (hne : (e, k) ≠ (d, n)) (v : Byte)
    (hc : e = .cartridge → d = .cartridge → 0x8000 ≤ n ∧ n ≤ 0x9FFF ∧ k ≤ 0x9FFF) :
    (s.deviceWrite d n v).deviceByte e k = s.deviceByte e k := by
  by_cases hboth : e = .cartridge ∧ d = .cartridge
  · obtain ⟨rfl, rfl⟩ := hboth
    obtain ⟨hn, hn', hk⟩ := hc rfl rfl
    exact s.cart.read_write_other v hn hn' hk fun h => hne (by rw [h])
  · cases e with
    | lent l =>
      cases d with
      | lent m => exact State.lentByte_lentWrite_other hne v
      | _ => rfl
    | _ => exact State.deviceByte_deviceWrite s v hne nofun fun he hd => hboth ⟨he, hd⟩

/-- Clearing `boot_active` moves the boot overlay's addresses to the cartridge and no other. -/
theorem State.target_cases (hc : t.config = s.config) (hb : t.bootActive = true → s.bootActive = true)
    (x : Word) : t.target x = s.target x ∨
      x.toNat < 0x100 ∧ s.target x = (.lent .bootOverlay, x.toNat)
        ∧ t.target x = (.cartridge, x.toNat) := by
  rcases Nat.lt_or_ge x.toNat 0x100 with hx | hx
  · rw [State.target_low s hx, State.target_low t hx]
    cases hs : s.bootActive <;> cases ht : t.bootActive <;> simp_all
  · exact .inl (State.target_of_le hc hx)

theorem State.target_eq_of_ne_lent (hc : t.config = s.config)
    (hb : t.bootActive = true → s.bootActive = true) (hl : ∀ l, (s.target x).1 ≠ .lent l) :
    t.target x = s.target x :=
  (State.target_cases hc hb x).resolve_right fun h => hl _ (congrArg Prod.fst h.2.1)

/-- A store leaves every byte it does not reach; below 0x8000 it may switch the cartridge's banks and
the boot overlay. -/
theorem State.loadByte_store_other (hne : s.target y ≠ s.target x)
    (hl : 0x8000 ≤ x.toNat ∨ ∀ l, (s.target y).1 ≠ .lent l)
    (hc : (s.target y).1 = .cartridge → 0x8000 ≤ x.toNat) :
    (s.store x v).loadByte y = s.loadByte y := by
  have htarget : (s.store x v).target y = s.target y := by
    rcases hl with hx | hl
    · exact State.target_congr (State.store_config ..)
        (State.store_bootActive_of_ne s v (ne_hundred_of_le hx)) y
    · exact State.target_eq_of_ne_lent (State.store_config ..) State.bootActive_of_store hl
  rcases hty : s.target y with ⟨e, k⟩
  rcases htx : s.target x with ⟨d, n⟩
  rw [State.loadByte_eq _ (htarget.trans hty), State.store_eq s htx, State.loadByte_eq s hty,
    State.deviceByte_deviceWrite_other (by rwa [hty, htx] at hne) v, State.deviceByte_touch]
  rintro rfl rfl
  exact ⟨State.le_of_target_cartridge (hc (congrArg Prod.fst hty)) htx,
    Nat.le_of_lt_succ (State.target_of_eq s htx), Nat.le_of_lt_succ (State.target_of_eq s hty)⟩

/-- Settles O41: a store at 0x8000 or above switches neither banks nor the boot overlay. -/
theorem storeChangesOnlyItsByte : Obligations.StoreChangesOnlyItsByte := by
  intro s t x y v hx hw hne
  rw [(memWrite_next_iff.1 hw).2]
  exact State.loadByte_store_other hne (.inl hx) fun _ => hx

end Sys2Proof.Machine

/-! # The memory frame of one instruction (the family of 20_memory.md)

`StoresOnly.of_exec` says once that an instruction other than PREFIX CB stores to the addresses of
`Spec.storesTo` only; the frame is what such stores leave unchanged. -/

namespace Sys2Proof.Machine

variable {s t u : State} {L : List Word} {x y : Word}

/-! ## Stores to listed addresses -/

theorem State.ports_store (h : ∀ l, (s.target x).1 ≠ .lent l) (v : Byte) :
    (s.store x v).ports = s.ports ∧ (s.store x v).events = s.events := by
  rcases ht : s.target x with ⟨d, n⟩
  rw [State.store_eq s ht]
  cases d with
  | lent l => exact absurd (congrArg Prod.fst ht) (h l)
  | _ => exact ⟨rfl, rfl⟩

theorem State.cart_store (h : (s.target x).1 ≠ .cartridge) (v : Byte) :
    (s.store x v).cart = s.cart := by
  rcases ht : s.target x with ⟨d, n⟩
  rw [State.store_eq s ht]
  cases d with
  | cartridge => exact absurd (congrArg Prod.fst ht) h
  | _ => rfl

/-- A read leaves every byte that no lent device answers (20_memory.md R102). -/
theorem State.loadByte_afterLoad (hl : ∀ l, (s.target y).1 ≠ .lent l) (x : Word) :
    (s.afterLoad x).loadByte y = s.loadByte y := by
  have htarget : (s.afterLoad x).target y = s.target y :=
    State.target_eq_of_ne_lent (State.afterLoad_config ..) State.bootActive_of_afterLoad hl
  rw [State.loadByte, htarget, State.deviceByte_afterLoad s x _ hl, State.loadByte]

/-- From `s` to `t` nothing is stored but to the addresses in `L`: what the memory frame says, and what
keeps it along a chain of accesses. -/
structure StoresOnly (L : List Word) (s t : State) : Prop where
  config : t.config = s.config
  boot : t.bootActive = true → s.bootActive = true
  bytes : ∀ y : Word, (∀ l, (s.target y).1 ≠ .lent l) →
    (∀ x ∈ L, s.target y ≠ s.target x ∧ ((s.target y).1 = .cartridge → 0x8000 ≤ x.toNat)) →
    t.loadByte y = s.loadByte y
  lent : (∀ x ∈ L, ∀ l, (s.target x).1 ≠ .lent l) → t.ports = s.ports ∧ t.events = s.events
  cart : (∀ x ∈ L, 0x8000 ≤ x.toNat ∧ (s.target x).1 ≠ .cartridge) → t.cart = s.cart

namespace StoresOnly

theorem refl : StoresOnly L s s := ⟨rfl, id, fun _ _ _ => rfl, fun _ => ⟨rfl, rfl⟩, fun _ => rfl⟩

/-- An update of the CPU core. -/
theorem keep (h : StoresOnly L s t) (hconfig : u.config = t.config)
    (hboot : u.bootActive = t.bootActive) (hload : ∀ y, u.loadByte y = t.loadByte y)
    (hports : u.ports = t.ports) (hevents : u.events = t.events) (hcart : u.cart = t.cart) :
    StoresOnly L s u where
  config := hconfig.trans h.config
  boot hb := h.boot (hboot ▸ hb)
  bytes y hl hy := (hload y).trans (h.bytes y hl hy)
  lent hL := ⟨hports.trans (h.lent hL).1, hevents.trans (h.lent hL).2⟩
  cart hL := hcart.trans (h.cart hL)

theorem setReg (h : StoresOnly L s t) (r : Reg) (v : Byte) : StoresOnly L s (t.setReg r v) :=
  h.keep (by simp) (by simp) (by simp) (by simp) (by simp) (by simp)

theorem setBc (h : StoresOnly L s t) (v : Word) : StoresOnly L s (t.setBc v) :=
  h.keep rfl rfl (fun _ => rfl) rfl rfl rfl

theorem setDe (h : StoresOnly L s t) (v : Word) : StoresOnly L s (t.setDe v) :=
  h.keep rfl rfl (fun _ => rfl) rfl rfl rfl

theorem setHl (h : StoresOnly L s t) (v : Word) : StoresOnly L s (t.setHl v) :=
  h.keep rfl rfl (fun _ => rfl) rfl rfl rfl

theorem setSp (h : StoresOnly L s t) (v : Word) : StoresOnly L s (t.setSp v) :=
  h.keep rfl rfl (fun _ => rfl) rfl rfl rfl

theorem setPc (h : StoresOnly L s t) (v : Word) : StoresOnly L s (t.setPc v) :=
  h.keep rfl rfl (fun _ => rfl) rfl rfl rfl

theorem writeFlags (h : StoresOnly L s t) (w : FlagWrites) : StoresOnly L s (t.writeFlags w) :=
  h.keep rfl rfl (fun _ => rfl) rfl rfl rfl

theorem setFlags (h : StoresOnly L s t) (f : Flags) : StoresOnly L s (t.setFlags f) := h.writeFlags _

theorem setStopped (h : StoresOnly L s t) : StoresOnly L s t.setStopped :=
  h.keep rfl rfl (fun _ => rfl) rfl rfl rfl

theorem setHalted (h : StoresOnly L s t) : StoresOnly L s t.setHalted :=
  h.keep rfl rfl (fun _ => rfl) rfl rfl rfl

theorem setIme (h : StoresOnly L s t) (v : Bool) : StoresOnly L s (t.setIme v) :=
  h.keep rfl rfl (fun _ => rfl) rfl rfl rfl

theorem raise (h : StoresOnly L s t) (r : FaultRecord) : StoresOnly L s (t.raise r) :=
  h.keep rfl rfl (fun _ => rfl) rfl rfl rfl

theorem afterLoad (h : StoresOnly L s t) (x : Word) : StoresOnly L s (t.afterLoad x) where
  config := (State.afterLoad_config ..).trans h.config
  boot hb := h.boot (State.bootActive_of_afterLoad hb)
  bytes y hl hy := by
    have htarget := State.target_eq_of_ne_lent h.config h.boot hl
    rw [State.loadByte_afterLoad (htarget ▸ hl), h.bytes y hl hy]
  lent hL := by simpa using h.lent hL
  cart hL := (State.afterLoad_cart ..).trans (h.cart hL)

/-- A store to a listed address. An earlier access of 0x0100 may have switched the boot overlay off, so
that a low address now reaches the cartridge's bank registers. -/
theorem store (h : StoresOnly L s t) (v : Byte) (hx : x ∈ L) : StoresOnly L s (t.store x v) where
  config := (State.store_config ..).trans h.config
  boot hb := h.boot (State.bootActive_of_store hb)
  bytes y hl hy := by
    obtain ⟨hne, hc⟩ := hy x hx
    have htarget := State.target_eq_of_ne_lent h.config h.boot hl
    have hne' : t.target y ≠ t.target x := by
      rw [htarget]
      rcases State.target_cases h.config h.boot x with e | ⟨hlow, -, e⟩
      · rwa [e]
      · intro he
        have := hc (by rw [he, e])
        omega
    rw [State.loadByte_store_other hne' (.inr (htarget ▸ hl)) (htarget ▸ hc), h.bytes y hl hy]
  lent hL := by
    have hl : ∀ l, (t.target x).1 ≠ .lent l := by
      rcases State.target_cases h.config h.boot x with e | ⟨-, -, e⟩
      · rw [e]; exact hL x hx
      · rw [e]; exact nofun
    obtain ⟨hports, hevents⟩ := State.ports_store hl v
    exact ⟨hports.trans (h.lent hL).1, hevents.trans (h.lent hL).2⟩
  cart hL := by
    obtain ⟨hle, hne⟩ := hL x hx
    have htarget : t.target x = s.target x := State.target_of_le h.config (by omega)
    exact (State.cart_store (htarget ▸ hne) v).trans (h.cart hL)

/-! ### The operations of the instruction families -/

theorem afterR8 (h : StoresOnly L s t) (r : R8) : StoresOnly L s (t.afterR8 r) := by
  cases r with
  | reg r => exact h
  | atHl => exact h.afterLoad _

theorem putR8 (h : StoresOnly L s t) (r : R8) (v : Byte) (hr : r = .atHl → t.hl ∈ L) :
    StoresOnly L s (t.putR8 r v) := by
  cases r with
  | reg r => exact h.setReg r v
  | atHl => exact h.store v (hr rfl)

/-- An operand read and then written back. -/
theorem putR8_afterR8 (r : R8) (v : Byte) (hr : r = .atHl → s.hl ∈ L) :
    StoresOnly L s ((s.afterR8 r).putR8 r v) := by
  refine (refl.afterR8 r).putR8 r v fun h => ?_
  have hhl : (s.afterR8 r).hl = s.hl := by rw [h, State.afterR8, State.hl_afterLoad]
  exact hhl ▸ hr h

theorem setPair (h : StoresOnly L s t) (p : Pair) (v : Word) : StoresOnly L s (t.setPair p v) := by
  cases p with
  | bc => exact h.setBc v
  | de => exact h.setDe v
  | hl => exact h.setHl v
  | sp => exact h.setSp v

theorem setStackPair (h : StoresOnly L s t) (p : StackPair) (v : Word) :
    StoresOnly L s (t.setStackPair p v) := by
  cases p with
  | bc => exact h.setBc v
  | de => exact h.setDe v
  | hl => exact h.setHl v
  | af => exact (h.setReg .a _).setFlags _

theorem afterInd (h : StoresOnly L s t) (p : IndAddr) : StoresOnly L s (t.afterInd p) := by
  cases p with
  | bc => exact h
  | de => exact h
  | hlInc => exact h.setHl _
  | hlDec => exact h.setHl _

theorem alu (h : StoresOnly L s t) (op : AluOp) (v : Byte) : StoresOnly L s (t.alu op v) := by
  cases op with
  | cp => exact h.setFlags _
  | _ => exact (h.setReg .a _).setFlags _

theorem pushed (hsp : s.sp - 1 ∈ L ∧ s.sp - 1 - 1 ∈ L) (v : Word) : StoresOnly L s (s.pushed v) :=
  (((refl.setSp _).store _ hsp.1).setSp _).store _ hsp.2

theorem popped : StoresOnly L s s.popped :=
  (((refl.afterLoad _).setSp _).afterLoad _).setSp _

theorem raiseIllegal (op : Byte) (n : Nat) : StoresOnly L s (s.raiseIllegal op n) :=
  (refl.setPc _).raise _

/-- The reads of registers and flags store nothing. -/
theorem reading {names : List RegName} {len : Nat} {Q : Prop} (h : StoresOnly L s u)
    (e : u.stopsUnread names len t ∨ s.firstUnwritten names = none ∧ Q)
    (hq : Q → StoresOnly L s t) : StoresOnly L s t := by
  rcases e with ⟨n, -, rfl⟩ | ⟨-, e⟩
  · exact h.raise _
  · exact hq e

theorem callFrom {n : Nat} (hsp : s.sp - 1 ∈ L ∧ s.sp - 1 - 1 ∈ L)
    (e : Machine.callFrom n x s = .next t) : StoresOnly L s t :=
  refl.reading (callFrom_next_iff.1 e) fun e => e.2 ▸ (pushed hsp _).setPc x

theorem ret (e : Machine.ret s = .next t) : StoresOnly L s t :=
  refl.reading (ret_next_iff.1 e) fun e => e.2 ▸ popped.setPc _

/-- A conditional jump, call or return that is not taken stores nothing. -/
theorem ite_next {c : Bool} {o : Res State} (e : (if c then o else .next s) = .next t)
    (h : c = true → o = .next t → StoresOnly L s t) : StoresOnly L s t := by
  rcases ite_next_cases e with ⟨hc, e⟩ | ⟨-, rfl⟩
  · exact h hc e
  · exact refl

end StoresOnly

/-! ## The addresses of `Spec.storesTo`, by form -/

theorem toNat_wordOf (h l : Byte) : (wordOf h l).toNat = h.toNat * 256 + l.toNat := by
  rw [← Nat.shiftLeft_eq h.toNat 8, Nat.shiftLeft_add_eq_or_of_lt l.isLt]
  exact BitVec.toNat_append h l

theorem join_eq_wordOf (h l : Byte) : Spec.join h l = wordOf h l := by
  rw [Spec.join, ← toNat_wordOf, BitVec.ofNat_toNat, BitVec.setWidth_eq]

theorem highAddress_eq_ofNat (n : Byte) : highAddress n = BitVec.ofNat 16 (0xFF00 + n.toNat) := by
  simp [highAddress, BitVec.ofNat_add, BitVec.ofNat_toNat]

/-- An instruction that stores to HL. -/
theorem hl_mem_of_storesTo {i : Instr} (h : Spec.storesTo i s = [Spec.join s.h s.l]) :
    s.hl ∈ Spec.storesTo i s := by
  rw [h, join_eq_wordOf]; exact List.mem_singleton_self _

/-- An instruction that stores to the two bytes below SP. -/
theorem below_mem_of_storesTo {i : Instr} (h : Spec.storesTo i s = [s.sp - 1, s.sp - 2]) :
    s.sp - 1 ∈ Spec.storesTo i s ∧ s.sp - 1 - 1 ∈ Spec.storesTo i s := by
  have hsub : s.sp - 2 = s.sp - 1 - 1 := by bv_omega
  rw [h, hsub]
  simp

theorem hl_mem_storesTo_load (r : Reg) : s.hl ∈ Spec.storesTo (Instr.class01 .atHl (.reg r)) s := by
  cases r <;> exact hl_mem_of_storesTo rfl

theorem hl_mem_storesTo_rot (o : RotOp) : s.hl ∈ Spec.storesTo (Instr.rot o .atHl) s := by
  cases o <;> exact hl_mem_of_storesTo rfl

theorem hl_mem_storesTo_res (b : Fin 8) : s.hl ∈ Spec.storesTo (Instr.res b .atHl) s := by
  fin_cases b <;> exact hl_mem_of_storesTo rfl

theorem hl_mem_storesTo_set (b : Fin 8) : s.hl ∈ Spec.storesTo (Instr.set b .atHl) s := by
  fin_cases b <;> exact hl_mem_of_storesTo rfl

theorem indAddress_mem_storesTo (p : IndAddr) :
    s.indAddress p ∈ Spec.storesTo (Instr.storeInd p) s := by
  cases p with
  | bc => rw [State.indAddress, State.bc, ← join_eq_wordOf]; exact List.mem_singleton_self _
  | de => rw [State.indAddress, State.de, ← join_eq_wordOf]; exact List.mem_singleton_self _
  | hlInc => exact hl_mem_of_storesTo rfl
  | hlDec => exact hl_mem_of_storesTo rfl

theorem below_mem_storesTo_push (p : StackPair) :
    s.sp - 1 ∈ Spec.storesTo (Instr.pushPair p) s
      ∧ s.sp - 1 - 1 ∈ Spec.storesTo (Instr.pushPair p) s := by
  cases p <;> exact below_mem_of_storesTo rfl

theorem below_mem_storesTo_rst (y : Fin 8) :
    s.sp - 1 ∈ Spec.storesTo (Instr.rst y) s ∧ s.sp - 1 - 1 ∈ Spec.storesTo (Instr.rst y) s := by
  fin_cases y <;> exact below_mem_of_storesTo rfl

/-- A conditional call pushes if it is taken (46_control_transfer.md R346). -/
theorem storesTo_callCc (cc : Cond) (x : Word) : Spec.storesTo (Instr.callCc cc x) s =
    if s.flags.cond cc then [s.sp - 1, s.sp - 2] else [] := by
  have hk : Spec.opcode (Instr.callCc cc x) = (callOpcode cc).toNat := by cases cc <;> rfl
  rcases hf : s.flags with ⟨z, n, h, c⟩
  simp only [Spec.storesTo, hk, hf]
  cases cc
  · cases z <;> rfl
  · cases z <;> rfl
  · cases c <;> rfl
  · cases c <;> rfl

theorem highAddress_mem_storesTo (n : Byte) :
    highAddress n ∈ Spec.storesTo (.ldhAtA8A n) s := by
  rw [highAddress_eq_ofNat]; exact List.mem_singleton_self _

theorem highAddress_mem_storesTo_ldAtCA : highAddress s.c ∈ Spec.storesTo .ldAtCA s := by
  rw [highAddress_eq_ofNat]; exact List.mem_singleton_self _

/-- A word put together again from its bytes (30_encoding.md R120). -/
theorem join_highByte_lowByte (x : Word) : Spec.join (highByte x) (lowByte x) = x := by
  rw [join_eq_wordOf, wordOf_highByte_lowByte]

theorem address_mem_storesTo_ldAtA16A (x : Word) : x ∈ Spec.storesTo (.ldAtA16A x) s := by
  have h : Spec.storesTo (.ldAtA16A x) s = [Spec.join (highByte x) (lowByte x)] := rfl
  simp [h, join_highByte_lowByte]

theorem address_mem_storesTo_ldAtA16Sp (x : Word) :
    x ∈ Spec.storesTo (.ldAtA16Sp x) s ∧ x + 1 ∈ Spec.storesTo (.ldAtA16Sp x) s := by
  have h : Spec.storesTo (.ldAtA16Sp x) s
      = [Spec.join (highByte x) (lowByte x), Spec.join (highByte x) (lowByte x) + 1] := rfl
  simp [h, join_highByte_lowByte]

/-! ## What an instruction other than PREFIX CB stores -/

namespace StoresOnly

theorem rotA {o : RotOp} (e : Machine.rotA o s = .next t) : StoresOnly L s t :=
  refl.reading (reading_next_next_iff.1 e) fun e => e ▸ (refl.setReg .a _).setFlags _

theorem accOp {o : AccOp} (e : exec (Instr.accOp o) s = .next t) : StoresOnly L s t := by
  rw [exec_accOp] at e
  cases o with
  | rlca => exact rotA e
  | rrca => exact rotA e
  | rla => exact rotA e
  | rra => exact rotA e
  | daa =>
    exact refl.reading (reading_next_next_iff.1 e) fun e => by
      rw [e]; exact (refl.setReg .a _).writeFlags _
  | cpl =>
    exact refl.reading (reading_next_next_iff.1 e) fun e => by
      rw [e]; exact (refl.setReg .a _).writeFlags _
  | scf => rw [next_inj.1 e]; exact refl.writeFlags _
  | ccf =>
    exact (refl.writeFlags _).reading (ccf_next_iff.1 e) fun e => by rw [e]; exact refl.writeFlags _

/-- One store of A. -/
theorem storeA (hx : x ∈ L) (e : Machine.storeA x s = .next t) : StoresOnly L s t :=
  (storeA_next_iff.1 e).2 ▸ refl.store _ hx

theorem loadA (e : Machine.loadA x s = .next t) : StoresOnly L s t :=
  (loadA_next_iff.1 e).2 ▸ (refl.afterLoad _).setReg .a _

/-- Every instruction other than PREFIX CB. -/
theorem of_exec {i : Instr} (hi : i ≠ .prefixCb) :
    exec i s = .next t → StoresOnly (Spec.storesTo i s) s t := by
  cases i using Instr.byForm with
  | h_class01 d z =>
    intro e
    rw [exec_class01] at e
    split at e
    · exact next_inj.1 e ▸ refl.setHalted
    · rename_i h
      refine refl.reading (ldR8R8_next_iff.1 e) fun e => e.2 ▸ (refl.afterR8 z).putR8 d _ ?_
      rintro rfl
      cases z with
      | reg r => exact hl_mem_storesTo_load r
      | atHl => exact absurd ⟨rfl, rfl⟩ h
  | h_aluR8 op r =>
    intro e
    rw [exec_aluR8] at e
    exact refl.reading (aluR8_next_iff.1 e) fun e => (refl.afterR8 r).reading e.2 fun e =>
      e ▸ (refl.afterR8 r).alu op _
  | h_aluN8 op n =>
    intro e
    rw [exec_aluN8] at e
    exact refl.reading (reading_next_next_iff.1 e) fun e => e ▸ refl.alu op n
  | h_incR8 r =>
    intro e
    rw [exec_incR8] at e
    exact refl.reading (incR8_next_iff.1 e) fun e =>
      e.2 ▸ (putR8_afterR8 r _ fun h => h ▸ hl_mem_of_storesTo rfl).writeFlags _
  | h_decR8 r =>
    intro e
    rw [exec_decR8] at e
    exact refl.reading (decR8_next_iff.1 e) fun e =>
      e.2 ▸ (putR8_afterR8 r _ fun h => h ▸ hl_mem_of_storesTo rfl).writeFlags _
  | h_ldR8N8 r n =>
    intro e
    rw [exec_ldR8N8] at e
    exact refl.reading (ldR8N8_next_iff.1 e) fun e =>
      e.2 ▸ refl.putR8 r n fun h => h ▸ hl_mem_of_storesTo rfl
  | h_ldPairN16 p nn => intro e; rw [exec_ldPairN16] at e; exact next_inj.1 e ▸ refl.setPair p nn
  | h_addHlPair p =>
    intro e
    rw [exec_addHlPair] at e
    exact refl.reading (reading_next_next_iff.1 e) fun e => e ▸ (refl.setHl _).writeFlags _
  | h_incPair p =>
    intro e
    rw [exec_incPair] at e
    exact refl.reading (reading_next_next_iff.1 e) fun e => e ▸ refl.setPair p _
  | h_decPair p =>
    intro e
    rw [exec_decPair] at e
    exact refl.reading (reading_next_next_iff.1 e) fun e => e ▸ refl.setPair p _
  | h_pushPair p =>
    intro e
    rw [exec_pushPair] at e
    exact refl.reading (pushPair_next_iff.1 e) fun e => e.2 ▸ pushed (below_mem_storesTo_push p) _
  | h_popPair p =>
    intro e
    rw [exec_popPair] at e
    exact refl.reading (popPair_next_iff.1 e) fun e => e.2 ▸ popped.setStackPair p _
  | h_storeInd p =>
    intro e
    rw [exec_storeInd] at e
    exact refl.reading (storeAInd_next_iff.1 e) fun e =>
      e.2 ▸ (refl.store _ (indAddress_mem_storesTo p)).afterInd p
  | h_loadInd p =>
    intro e
    rw [exec_loadInd] at e
    exact refl.reading (loadAInd_next_iff.1 e) fun e =>
      e.2 ▸ ((refl.afterLoad _).setReg .a _).afterInd p
  | h_accOp o => exact accOp
  | h_jrCc cc x =>
    intro e
    rw [exec_jrCc] at e
    exact refl.reading (reading_next_iff.1 e) fun e => ite_next e fun _ e => next_inj.1 e ▸ refl.setPc _
  | h_jpCc cc x =>
    intro e
    rw [exec_jpCc] at e
    exact refl.reading (reading_next_iff.1 e) fun e => ite_next e fun _ e => next_inj.1 e ▸ refl.setPc _
  | h_callCc cc x =>
    intro e
    rw [exec_callCc, callIf] at e
    split at e
    · exact next_inj.1 e ▸ raiseIllegal _ _
    · refine refl.reading (reading_next_iff.1 e) fun e => ite_next e fun hc e => callFrom ?_ e
      exact below_mem_of_storesTo ((storesTo_callCc cc x).trans (if_pos hc))
  | h_retCc cc =>
    intro e
    rw [exec_retCc] at e
    exact refl.reading (reading_next_iff.1 e) fun e => ite_next e fun _ e => ret e
  | h_rst y => intro e; rw [exec_rst] at e; exact callFrom (below_mem_storesTo_rst y) e
  | h_rot o r =>
    intro e
    rw [exec_rot] at e
    exact refl.reading (rotR8_next_iff.1 e) fun e => (refl.afterR8 r).reading e.2 fun e =>
      e ▸ (putR8_afterR8 r _ fun h => h ▸ hl_mem_storesTo_rot o).setFlags _
  | h_bit b r =>
    intro e
    rw [exec_bit] at e
    exact refl.reading (bitR8_next_iff.1 e) fun e => e.2 ▸ (refl.afterR8 r).writeFlags _
  | h_res b r =>
    intro e
    rw [exec_res] at e
    exact refl.reading (resR8_next_iff.1 e) fun e =>
      e.2 ▸ putR8_afterR8 r _ fun h => h ▸ hl_mem_storesTo_res b
  | h_set b r =>
    intro e
    rw [exec_set] at e
    exact refl.reading (setR8_next_iff.1 e) fun e =>
      e.2 ▸ putR8_afterR8 r _ fun h => h ▸ hl_mem_storesTo_set b
  | h_nop => intro e; exact next_inj.1 e ▸ refl
  | h_stop => intro e; exact next_inj.1 e ▸ refl.setStopped
  | h_di => intro e; exact next_inj.1 e ▸ refl.setIme _
  | h_ei => intro e; exact next_inj.1 e ▸ refl.setIme _
  | h_illegal op => intro e; exact next_inj.1 e ▸ raiseIllegal _ _
  | h_prefixCb => exact absurd rfl hi
  | h_ldAtA16Sp x =>
    intro e
    obtain ⟨hx, hx'⟩ := address_mem_storesTo_ldAtA16Sp (s := s) x
    exact refl.reading (storeSp_next_iff.1 e) fun e => e.2 ▸ (refl.store _ hx).store _ hx'
  | h_jrE8 x => intro e; exact next_inj.1 e ▸ refl.setPc _
  | h_ldhAtA8A n =>
    intro e
    exact refl.reading (reading_next_iff.1 e) (storeA (highAddress_mem_storesTo n))
  | h_ldhAAtA8 n => exact loadA
  | h_ldAtCA =>
    intro e
    exact refl.reading (reading_next_iff.1 e) (storeA highAddress_mem_storesTo_ldAtCA)
  | h_ldAAtC => intro e; exact refl.reading (reading_next_iff.1 e) loadA
  | h_ldAtA16A x =>
    intro e
    exact refl.reading (reading_next_iff.1 e) (storeA (address_mem_storesTo_ldAtA16A x))
  | h_ldAAtA16 x => exact loadA
  | h_addSpE8 x =>
    intro e
    exact refl.reading (reading_next_next_iff.1 e) fun e => e ▸ (refl.setSp _).setFlags _
  | h_ldHlSpE8 x =>
    intro e
    exact refl.reading (reading_next_next_iff.1 e) fun e => e ▸ (refl.setHl _).setFlags _
  | h_ldSpHl =>
    intro e
    exact refl.reading (reading_next_next_iff.1 e) fun e => e ▸ refl.setSp _
  | h_ret => exact ret
  | h_reti =>
    intro e
    exact refl.reading (reti_next_iff.1 e) fun e => e.2 ▸ (popped.setPc _).setIme _
  | h_jpHl =>
    intro e
    exact refl.reading (reading_next_next_iff.1 e) fun e => e ▸ refl.setPc _
  | h_jpA16 x => intro e; exact next_inj.1 e ▸ refl.setPc _
  | h_callA16 x => exact callFrom (below_mem_of_storesTo rfl)

end StoresOnly

/-- Settles O56: an instruction stores to the listed addresses only, and such stores keep the rest. -/
theorem memoryFrame : Obligations.MemoryFrame := by
  intro i s t hi e
  have h := StoresOnly.of_exec hi e
  exact ⟨h.bytes, h.lent, h.cart⟩

end Sys2Proof.Machine

/-! # Construction of a cartridge and the host's operations (the family of 20_memory.md) -/

namespace Sys2Proof.Machine

variable {img : List Byte} {v : Variant} {ids : List Byte} {table : List (Byte × Variant)}

/-! ## The registry (20_memory.md R78) -/

/-- The identifier is serviced by an entry of a registry. -/
def Registered (table : List (Byte × Variant)) (id : Byte) : Prop := ∃ v, (id, v) ∈ table

theorem registered_append {more : List (Byte × Variant)} {id : Byte} :
    Registered (table ++ more) id ↔ Registered table id ∨ Registered more id := by
  simp [Registered, exists_or]

theorem registered_map {id : Byte} : Registered (ids.map (·, v)) id ↔ id ∈ ids := by
  simp only [Registered, List.mem_map, Prod.mk.injEq]
  exact ⟨fun ⟨_, _, h, e, _⟩ => e ▸ h, fun h => ⟨v, id, h, rfl, trivial⟩⟩

theorem any_eq_true_iff_registered {id : Byte} :
    (table.any fun entry => entry.1 == id) = true ↔ Registered table id := by
  simp [Registered]

/-- A claim is added when no identifier of it is in the registry; else the conflict names one that is. -/
theorem register_cases (v : Variant) (table : List (Byte × Variant)) (ids : List Byte) :
    (register v table ids = .ok (ids.map (·, v)) ∧ ∀ id ∈ ids, ¬ Registered table id)
      ∨ ∃ id ∈ ids, Registered table id ∧ register v table ids = .error (.registrationConflict id) := by
  induction ids with
  | nil => exact .inl ⟨rfl, nofun⟩
  | cons id ids ih =>
    by_cases hid : Registered table id
    · exact .inr ⟨id, by simp, hid, if_pos (any_eq_true_iff_registered.2 hid)⟩
    · have hstep : register v table (id :: ids) = _ := if_neg (mt any_eq_true_iff_registered.1 hid)
      rcases ih with ⟨e, hids⟩ | ⟨bad, hmem, hbad, e⟩
      · rw [e] at hstep
        exact .inl ⟨hstep, by simpa [hid] using hids⟩
      · rw [e] at hstep
        exact .inr ⟨bad, by simp [hmem], hbad, hstep⟩

/-- A registry has the identifiers of its claims, which share none; else the conflict names an identifier
of two claims. -/
theorem buildRegistry_cases (claims : List Claim) :
    (∃ table, buildRegistry claims = .ok table
        ∧ (∀ id, Registered table id ↔ ∃ x ∈ claims, id ∈ x.ids)
        ∧ claims.Pairwise fun x y => ∀ id ∈ x.ids, id ∉ y.ids)
      ∨ ∃ id x y, buildRegistry claims = .error (.registrationConflict id)
        ∧ [x, y].Sublist claims ∧ id ∈ x.ids ∧ id ∈ y.ids := by
  induction claims with
  | nil => exact .inl ⟨[], rfl, by simp [Registered], .nil⟩
  | cons claim claims ih =>
    rcases ih with ⟨table, e, hreg, hpair⟩ | ⟨id, x, y, e, hsub, hx, hy⟩
    · rcases register_cases claim.variant table claim.ids with ⟨e', hids⟩ | ⟨id, hmem, hid, e'⟩
      · refine .inl ⟨claim.ids.map (·, claim.variant) ++ table, by simp only [buildRegistry, e, e'],
          fun id => ?_, hpair.cons fun y hy id hid hid' => ?_⟩
        · rw [registered_append, registered_map, hreg]; simp
        · exact hids id hid ((hreg id).2 ⟨y, hy, hid'⟩)
      · obtain ⟨y, hy, hidy⟩ := (hreg id).1 hid
        exact .inr ⟨id, claim, y, by simp only [buildRegistry, e, e'],
          (List.singleton_sublist.2 hy).cons_cons claim, hmem, hidy⟩
    · exact .inr ⟨id, x, y, by simp only [buildRegistry, e], hsub.cons claim, hx, hy⟩

/-- Settles O58: the registry of the claims, by induction on them. -/
theorem registryRefusesASharedIdentifier : Obligations.RegistryRefusesASharedIdentifier := by
  intro claims
  rcases buildRegistry_cases claims with ⟨table, e, -, hpair⟩ | ⟨id, x, y, e, hsub, hx, hy⟩
  · exact ⟨⟨fun _ => hpair, fun _ => ⟨table, e⟩⟩, fun r hr => nomatch e.symm.trans hr⟩
  · refine ⟨⟨fun ⟨table, ht⟩ => (nomatch e.symm.trans ht), fun hpair => ?_⟩, fun r hr => ?_⟩
    · exact absurd hy (List.pairwise_pair.1 (hpair.sublist hsub) id hx)
    · rw [e] at hr
      cases hr
      exact ⟨id, x, y, rfl, hsub, hx, hy⟩

/-! ## The ROM array of an image (20_memory.md R81) -/

/-- The cell that a byte of an image lists at its index, if any. -/
def romCell (b : Byte × Nat) : Option Host.Cell :=
  if b.2 < romSlots * romSlotSize ∧ ownRomKey b.2 = true ∧ b.1 ≠ 0x00 then some (b.2, b.1) else none

theorem romOfImage_eq (img : List Byte) : romOfImage img = img.zipIdx.filterMap romCell := rfl

theorem romCell_eq_some {b : Byte × Nat} {c : Host.Cell} (h : romCell b = some c) :
    c.1 < romSlots * romSlotSize ∧ ownRomKey c.1 = true ∧ c.2 ≠ 0x00 := by
  rw [romCell] at h
  split at h
  next hb => cases h; exact hb
  next => cases h

/-- The cells of an image are listed in the order of their indices. -/
theorem sortedFrom_romCells (img : List Byte) (n : Nat) :
    Memory.sortedFrom n ((img.zipIdx n).filterMap romCell) = true := by
  induction img generalizing n with
  | nil => rfl
  | cons b img ih =>
    have hrest := ih (n + 1)
    rw [List.zipIdx_cons, List.filterMap_cons]
    cases h : romCell (b, n) with
    | none => exact Memory.sortedFrom_mono hrest (Nat.le_succ n)
    | some c =>
      have hc : c = (n, b) := by
        rw [romCell] at h; split at h <;> cases h; rfl
      subst hc
      simpa [Memory.sortedFrom] using hrest

/-- A key of its own reads the image's byte, zero past its end. -/
theorem read_romCells (img : List Byte) {n k : Nat} (hk : k < romSlots * romSlotSize)
    (hown : ownRomKey k = true) (hn : n ≤ k) :
    (Memory.read ((img.zipIdx n).filterMap romCell) k).getD 0x00 = img.getD (k - n) 0x00 := by
  induction img generalizing n with
  | nil => rfl
  | cons b img ih =>
    rw [List.zipIdx_cons, List.filterMap_cons]
    rcases Nat.eq_or_lt_of_le hn with rfl | hlt
    · rw [Nat.sub_self, List.getD_cons_zero]
      by_cases hb : b = 0x00
      · have hcell : romCell (b, n) = none := if_neg fun h => h.2.2 hb
        rw [hcell, Memory.read_below (sortedFrom_romCells img (n + 1)) (Nat.lt_succ_self n), hb]
        rfl
      · have hcell : romCell (b, n) = some (n, b) := if_pos ⟨hk, hown, hb⟩
        rw [hcell, Memory.read, if_pos rfl]
        rfl
    · have hsub : k - n = (k - (n + 1)) + 1 := by omega
      rw [hsub, List.getD_cons_succ, ← ih (by omega)]
      by_cases hc : n < romSlots * romSlotSize ∧ ownRomKey n = true ∧ b ≠ 0x00
      · have hcell : romCell (b, n) = some (n, b) := if_pos hc
        rw [hcell, Memory.read, if_neg (by omega)]
      · have hcell : romCell (b, n) = none := if_neg hc
        rw [hcell]

theorem wf_romOfImage (img : List Byte) :
    Memory.wf (romSlots * romSlotSize) unlistedRom (romOfImage img) = true := by
  refine Memory.wf_iff.2 ⟨sortedFrom_romCells img 0, fun c hc => ?_⟩
  obtain ⟨b, -, hb⟩ := List.mem_filterMap.1 hc
  obtain ⟨hlt, -, hne⟩ := romCell_eq_some hb
  exact ⟨hlt, fun h => hne (Option.some.inj h)⟩

theorem ownRomKey_romOfImage (img : List Byte) :
    (romOfImage img).all (fun cell => ownRomKey cell.1) = true := by
  refine List.all_eq_true.2 fun c hc => ?_
  obtain ⟨b, -, hb⟩ := List.mem_filterMap.1 hc
  exact (romCell_eq_some hb).2.1

theorem Type1.slotByte_eq (c : Type1) (k o : Nat) :
    c.slotByte k o = (c.rom.read (romKey k o)).getD 0x00 := by
  rw [Type1.slotByte]
  cases c.rom.read (romKey k o) <;> rfl

/-- The key of a slot's byte lies in a slot that holds data of its own. -/
theorem romKey_own {k o : Nat} (hk : k < 128) (ho : o < 0x4000) :
    romKey k o < romSlots * romSlotSize ∧ ownRomKey (romKey k o) = true := by
  have hslot (j : Nat) (hj : j < 128) (hne : ¬ (j = 32 ∨ j = 64 ∨ j = 96)) :
      j * romSlotSize + o < romSlots * romSlotSize ∧ ownRomKey (j * romSlotSize + o) = true := by
    have hdiv : (j * romSlotSize + o) / romSlotSize = j := by rw [romSlotSize]; omega
    have hmod : (j * romSlotSize + o) % romSlotSize = o := by rw [romSlotSize]; omega
    refine ⟨by rw [romSlots, romSlotSize]; omega, decide_eq_true ?_⟩
    rw [hdiv, hmod, romKey, if_neg hne]
  rw [romKey]
  split
  next => exact hslot 0 (by omega) (by omega)
  next h => exact hslot k hk h

/-! ## Construction (20_memory.md R79 to R81) -/

/-- This block's table has one claim, so its registry is always built (20_memory.md R78). -/
theorem buildRegistry_type1 (config : Config) :
    buildRegistry (registryClaims config) = .ok (config.type1Ids.map (·, .type1)) := by
  rcases register_cases .type1 [] config.type1Ids with ⟨e, -⟩ | ⟨id, -, ⟨v, hv⟩, -⟩
  · simp only [registryClaims, buildRegistry, e, List.append_nil]
  · cases hv

theorem lookupVariant_type1 (id : Byte) : lookupVariant (ids.map (·, .type1)) id =
    if id ∈ ids then some .type1 else none := by
  induction ids with
  | nil => rfl
  | cons a ids ih =>
    by_cases h : a = id
    · simp [lookupVariant, h]
    · simpa [lookupVariant, h, Ne.symm h] using ih

theorem constructCartridge_eq (config : Config) (serial : Nat) (img : List Byte) :
    constructCartridge config serial img =
      constructWith (config.type1Ids.map (·, .type1)) serial img := by
  simp only [constructCartridge, buildRegistry_type1]

/-- An image that is long enough is of the type its byte at 0x147 says. -/
theorem constructCartridge_of_lt (config : Config) (serial : Nat) (h : 0x147 < img.length) :
    constructCartridge config serial img = if img.getD 0x147 0 ∈ config.type1Ids
      then .ok (.type1 (constructType1 serial img))
      else .error (.constructionError (.unsupportedType (img.getD 0x147 0))) := by
  have hid : img[0x147]? = some (img.getD 0x147 0) := by
    rw [List.getD_eq_getElem _ _ h, List.getElem?_eq_getElem h]
  rw [constructCartridge_eq]
  cases img with
  | nil => cases h
  | cons b bs =>
    simp only [constructWith, hid, lookupVariant_type1]
    by_cases hmem : (b :: bs).getD 0x147 0 ∈ config.type1Ids
    · simp only [if_pos hmem]
    · simp only [if_neg hmem]

theorem slotByte_constructType1 (serial : Nat) (img : List Byte) {k o : Nat} (hk : k < 128)
    (ho : o < 0x4000) : (constructType1 serial img).slotByte k o = img.getD (romKey k o) 0x00 := by
  obtain ⟨hlt, hown⟩ := romKey_own hk ho
  rw [Type1.slotByte_eq]
  exact read_romCells img hlt hown (Nat.zero_le _)

/-- Settles O57: the errors come before the registry's answer, and the ROM array is the image's cells. -/
theorem constructionOutcomes : Obligations.ConstructionOutcomes := by
  intro config serial img
  refine ⟨?_, fun hne hlen => ?_, fun hlen hid => ?_, fun hlen hid => ?_⟩
  · rw [constructCartridge_eq]; rfl
  · rw [constructCartridge_eq]
    cases img with
    | nil => exact absurd rfl hne
    | cons b bs => simp only [constructWith, List.getElem?_eq_none hlen]
  · rw [constructCartridge_of_lt config serial hlen, if_neg hid]
  · refine ⟨constructType1 serial img, ?_, ?_, rfl, rfl, rfl, rfl,
      fun k o hk ho => slotByte_constructType1 serial img hk ho, fun b o => rfl⟩
    · rw [constructCartridge_of_lt config serial hlen, if_pos hid]
    · have hform : (Cartridge.type1 (constructType1 serial img)).wf =
          (Memory.wf (romSlots * romSlotSize) unlistedRom (romOfImage img)
            && (romOfImage img).all (fun cell => ownRomKey cell.1) && true && true) := rfl
      rw [hform, wf_romOfImage, ownRomKey_romOfImage]
      rfl

/-! ## Loading, unloading and reset (20_memory.md R77, 70_reset_and_hazards.md R450) -/

variable {s : State}

/-- Settles O59: the updates are of single fields, and the boot overlay answers the first fetch. -/
theorem hostOperations : Obligations.HostOperations := by
  intro s c devices
  refine ⟨rfl, rfl, fun x h => ?_, rfl, rfl, rfl, rfl, rfl, rfl, rfl, rfl, fun n => ?_, ?_⟩
  · have htarget : s.unloadCartridge.target x = (.cartridge, (s.target x).2) := by rw [← h]; rfl
    rw [State.loadByte_eq _ htarget]
    rfl
  · rw [isWritten_eq_get]
    rcases n with r | _ | f
    · cases r <;> rfl
    · rfl
    · cases f <;> rfl
  · have htarget : (s.hostReset devices).target 0x0000 = (.lent .bootOverlay, 0x00) :=
      translateAddress_bootOverlay (by decide)
    exact State.loadByte_eq _ htarget

/-! ## Addresses outside the address space (20_memory.md R75, R83) -/

/-- Settles O60: each checked port tests the address and is the ordinary access inside. -/
theorem invalidAddressesAreFaults : Obligations.InvalidAddressesAreFaults := by
  intro s c n v
  refine ⟨fun h => ⟨if_neg (by omega), if_neg (by omega)⟩,
    fun h => ⟨if_pos (by omega), if_pos (by omega)⟩, fun h => ?_, fun h => ?_, fun _ _ => rfl⟩
  · have ha : ¬ (Cartridge.type1 c).accepts n = true := by simp [Cartridge.accepts]; omega
    exact ⟨if_neg ha, if_neg ha⟩
  · have ha : (Cartridge.type1 c).accepts n = true := by simp [Cartridge.accepts]; omega
    exact ⟨if_pos ha, if_pos ha⟩

end Sys2Proof.Machine

/-! # The encoding: the family of 30_encoding.md

`Encodes op operand i` ties an opcode byte and its operand bytes to their instruction, in both
directions. It is shown once for each group of the decode tree (R131 to R135). Every well-formed
instruction is of such a group, so decoding undoes encoding; every opcode byte with its operand is of
such a group, so encoding undoes decoding. -/

namespace Sys2Proof.Machine

/-! ## The fields of an opcode byte (30_encoding.md R122) -/

/-- The opcode byte of the fields `x`, `y` and `z`. -/
abbrev byteOf (x y z : Nat) : Byte := BitVec.ofNat 8 (64 * x + 8 * y + z)

theorem exists_byteOf (op : Byte) : ∃ (x : Fin 4) (y z : Fin 8), op = byteOf x y z := by
  refine ⟨⟨op.toNat / 64, by omega⟩, ⟨op.toNat / 8 % 8, by omega⟩, ⟨op.toNat % 8, by omega⟩, ?_⟩
  apply BitVec.eq_of_toNat_eq
  simp only [byteOf, BitVec.toNat_ofNat]
  omega

/-- `y` is the pair index `p` and the bit `q`. -/
theorem exists_eq_two_mul_or (y : Fin 8) :
    ∃ p : Fin 4, (y : Nat) = 2 * p ∨ (y : Nat) = 2 * p + 1 :=
  ⟨⟨y / 2, by omega⟩, by dsimp only; omega⟩

/-- `y` is a two-bit code below one bit. -/
theorem exists_eq_or_eq_add_four (y : Fin 8) :
    ∃ c : Fin 4, (y : Nat) = c ∨ (y : Nat) = c + 4 :=
  ⟨⟨y % 4, by omega⟩, by dsimp only; omega⟩

/-! Every operand name has a code (30_encoding.md R123 to R131). -/

theorem exists_r8OfCode : ∀ r : R8, ∃ z : Fin 8, r = r8OfCode z
  | .reg .b => ⟨0, rfl⟩ | .reg .c => ⟨1, rfl⟩ | .reg .d => ⟨2, rfl⟩ | .reg .e => ⟨3, rfl⟩
  | .reg .h => ⟨4, rfl⟩ | .reg .l => ⟨5, rfl⟩ | .atHl => ⟨6, rfl⟩ | .reg .a => ⟨7, rfl⟩

theorem exists_aluOfCode : ∀ o : AluOp, ∃ y : Fin 8, o = aluOfCode y
  | .add => ⟨0, rfl⟩ | .adc => ⟨1, rfl⟩ | .sub => ⟨2, rfl⟩ | .sbc => ⟨3, rfl⟩
  | .and => ⟨4, rfl⟩ | .xor => ⟨5, rfl⟩ | .or => ⟨6, rfl⟩ | .cp => ⟨7, rfl⟩

theorem exists_rotOfCode : ∀ o : RotOp, ∃ y : Fin 8, o = rotOfCode y
  | .rlc => ⟨0, rfl⟩ | .rrc => ⟨1, rfl⟩ | .rl => ⟨2, rfl⟩ | .rr => ⟨3, rfl⟩
  | .sla => ⟨4, rfl⟩ | .sra => ⟨5, rfl⟩ | .swap => ⟨6, rfl⟩ | .srl => ⟨7, rfl⟩

theorem exists_accOfCode : ∀ o : AccOp, ∃ y : Fin 8, o = accOfCode y
  | .rlca => ⟨0, rfl⟩ | .rrca => ⟨1, rfl⟩ | .rla => ⟨2, rfl⟩ | .rra => ⟨3, rfl⟩
  | .daa => ⟨4, rfl⟩ | .cpl => ⟨5, rfl⟩ | .scf => ⟨6, rfl⟩ | .ccf => ⟨7, rfl⟩

theorem exists_pairOfCode : ∀ p : Pair, ∃ k : Fin 4, p = pairOfCode k
  | .bc => ⟨0, rfl⟩ | .de => ⟨1, rfl⟩ | .hl => ⟨2, rfl⟩ | .sp => ⟨3, rfl⟩

theorem exists_stackPairOfCode : ∀ p : StackPair, ∃ k : Fin 4, p = stackPairOfCode k
  | .bc => ⟨0, rfl⟩ | .de => ⟨1, rfl⟩ | .hl => ⟨2, rfl⟩ | .af => ⟨3, rfl⟩

theorem exists_indOfCode : ∀ p : IndAddr, ∃ k : Fin 4, p = indOfCode k
  | .bc => ⟨0, rfl⟩ | .de => ⟨1, rfl⟩ | .hlInc => ⟨2, rfl⟩ | .hlDec => ⟨3, rfl⟩

theorem exists_condOfCode : ∀ cc : Cond, ∃ k : Fin 4, cc = condOfCode k
  | .nz => ⟨0, rfl⟩ | .z => ⟨1, rfl⟩ | .nc => ⟨2, rfl⟩ | .c => ⟨3, rfl⟩

/-! ## An instruction and its bytes (30_encoding.md R120, R121) -/

/-- Enough bytes decode to the instruction of the opcode byte and the two bytes after it. -/
theorem decode_cons {op : Byte} {tail : List Byte} (hcb : ¬ (op = 0xCB ∧ tail = []))
    (hle : operandBytes op ≤ tail.length) : decode (op :: tail) =
      .ok (decodeInstr op (tail.getD 0 0) (tail.getD 1 0), tail.drop (operandBytes op)) := by
  rw [decode, if_neg hcb, if_neg (not_lt.2 hle)]

/-- `op` and `operand` are the bytes of the instruction `i`: its encoding, and read back as `i`
whatever bytes follow. -/
structure Encodes (op : Byte) (operand : List Byte) (i : Instr) : Prop where
  wf : i.wf = true
  encode_eq : encode i = op :: operand
  length_eq : operand.length = operandBytes op
  decode_eq : ∀ rest,
    decodeInstr op ((operand ++ rest).getD 0 0) ((operand ++ rest).getD 1 0) = i

namespace Encodes

variable {op : Byte} {operand : List Byte} {i : Instr}

/-! One rule for each format: B1, B2 and B3. -/

theorem ofOpcode (hwf : i.wf = true) (henc : encode i = [op]) (hlen : operandBytes op = 0)
    (hdec : ∀ b1 b2, decodeInstr op b1 b2 = i) : Encodes op [] i :=
  ⟨hwf, henc, hlen.symm, fun _ => hdec _ _⟩

theorem ofByte {n : Byte} (hwf : i.wf = true) (henc : encode i = [op, n])
    (hlen : operandBytes op = 1) (hdec : ∀ b2, decodeInstr op n b2 = i) : Encodes op [n] i :=
  ⟨hwf, henc, hlen.symm, fun _ => hdec _⟩

theorem ofWord {f : Word → Instr} {nn : Word} (hwf : (f nn).wf = true)
    (henc : encode (f nn) = [op, lowByte nn, highByte nn]) (hlen : operandBytes op = 2)
    (hdec : ∀ b1 b2, decodeInstr op b1 b2 = f (wordOf b2 b1)) :
    Encodes op [lowByte nn, highByte nn] (f nn) :=
  ⟨hwf, henc, hlen.symm, fun _ => (hdec _ _).trans (congrArg f (wordOf_highByte_lowByte nn))⟩

/-- The operand of format B3 by its two bytes. -/
theorem toBytes {l h : Byte} (e : Encodes op [lowByte (wordOf h l), highByte (wordOf h l)] i) :
    Encodes op [l, h] i := by
  rwa [lowByte_wordOf, highByte_wordOf] at e

/-- The decoder reads an instruction from its bytes and leaves the bytes after them. -/
theorem decode_append (e : Encodes op operand i) (rest : List Byte) :
    decode (op :: (operand ++ rest)) = .ok (i, rest) := by
  have hcb : ¬ (op = 0xCB ∧ operand ++ rest = []) := by
    rintro ⟨rfl, hnil⟩
    have hlen : operand.length = 1 := e.length_eq
    rw [(List.append_eq_nil_iff.1 hnil).1] at hlen
    cases hlen
  rw [decode_cons hcb (by rw [← e.length_eq]; simp), e.decode_eq, ← e.length_eq, List.drop_left]

end Encodes

/-! ## The groups of the decode tree (30_encoding.md R131 to R135)

One rule for each group, by the codes in its bit fields: the bytes are evaluated at each code, the
operand bytes stay variables. -/

open Encodes

theorem encodes_class01 (y z : Fin 8) :
    Encodes (byteOf 1 y z) [] (Instr.class01 (r8OfCode y) (r8OfCode z)) := by
  fin_cases y <;> fin_cases z <;> exact ofOpcode rfl rfl rfl fun _ _ => rfl

theorem encodes_aluR8 (y z : Fin 8) :
    Encodes (byteOf 2 y z) [] (Instr.aluR8 (aluOfCode y) (r8OfCode z)) := by
  fin_cases y <;> fin_cases z <;> exact ofOpcode rfl rfl rfl fun _ _ => rfl

theorem encodes_rot (y z : Fin 8) :
    Encodes 0xCB [byteOf 0 y z] (Instr.rot (rotOfCode y) (r8OfCode z)) := by
  fin_cases y <;> fin_cases z <;> exact ofByte rfl rfl rfl fun _ => rfl

theorem encodes_bit (y z : Fin 8) :
    Encodes 0xCB [byteOf 1 y z] (Instr.bit y (r8OfCode z)) := by
  fin_cases y <;> fin_cases z <;> exact ofByte rfl rfl rfl fun _ => rfl

theorem encodes_res (y z : Fin 8) :
    Encodes 0xCB [byteOf 2 y z] (Instr.res y (r8OfCode z)) := by
  fin_cases y <;> fin_cases z <;> exact ofByte rfl rfl rfl fun _ => rfl

theorem encodes_set (y z : Fin 8) :
    Encodes 0xCB [byteOf 3 y z] (Instr.set y (r8OfCode z)) := by
  fin_cases y <;> fin_cases z <;> exact ofByte rfl rfl rfl fun _ => rfl

theorem encodes_incR8 (y : Fin 8) : Encodes (byteOf 0 y 4) [] (Instr.incR8 (r8OfCode y)) := by
  fin_cases y <;> exact ofOpcode rfl rfl rfl fun _ _ => rfl

theorem encodes_decR8 (y : Fin 8) : Encodes (byteOf 0 y 5) [] (Instr.decR8 (r8OfCode y)) := by
  fin_cases y <;> exact ofOpcode rfl rfl rfl fun _ _ => rfl

theorem encodes_ldR8N8 (y : Fin 8) (n : Byte) :
    Encodes (byteOf 0 y 6) [n] (Instr.ldR8N8 (r8OfCode y) n) := by
  fin_cases y <;> exact ofByte rfl rfl rfl fun _ => rfl

theorem encodes_accOp (y : Fin 8) : Encodes (byteOf 0 y 7) [] (Instr.accOp (accOfCode y)) := by
  fin_cases y <;> exact ofOpcode rfl rfl rfl fun _ _ => rfl

theorem encodes_aluN8 (y : Fin 8) (n : Byte) :
    Encodes (byteOf 3 y 6) [n] (Instr.aluN8 (aluOfCode y) n) := by
  fin_cases y <;> exact ofByte rfl rfl rfl fun _ => rfl

theorem encodes_rst (y : Fin 8) : Encodes (byteOf 3 y 7) [] (Instr.rst y) := by
  fin_cases y <;> exact ofOpcode rfl rfl rfl fun _ _ => rfl

theorem encodes_ldPairN16 (p : Fin 4) (nn : Word) :
    Encodes (byteOf 0 (2 * p) 1) [lowByte nn, highByte nn] (Instr.ldPairN16 (pairOfCode p) nn) := by
  fin_cases p <;> exact ofWord rfl rfl rfl fun _ _ => rfl

theorem encodes_addHlPair (p : Fin 4) :
    Encodes (byteOf 0 (2 * p + 1) 1) [] (Instr.addHlPair (pairOfCode p)) := by
  fin_cases p <;> exact ofOpcode rfl rfl rfl fun _ _ => rfl

theorem encodes_storeInd (p : Fin 4) :
    Encodes (byteOf 0 (2 * p) 2) [] (Instr.storeInd (indOfCode p)) := by
  fin_cases p <;> exact ofOpcode rfl rfl rfl fun _ _ => rfl

theorem encodes_loadInd (p : Fin 4) :
    Encodes (byteOf 0 (2 * p + 1) 2) [] (Instr.loadInd (indOfCode p)) := by
  fin_cases p <;> exact ofOpcode rfl rfl rfl fun _ _ => rfl

theorem encodes_incPair (p : Fin 4) :
    Encodes (byteOf 0 (2 * p) 3) [] (Instr.incPair (pairOfCode p)) := by
  fin_cases p <;> exact ofOpcode rfl rfl rfl fun _ _ => rfl

theorem encodes_decPair (p : Fin 4) :
    Encodes (byteOf 0 (2 * p + 1) 3) [] (Instr.decPair (pairOfCode p)) := by
  fin_cases p <;> exact ofOpcode rfl rfl rfl fun _ _ => rfl

theorem encodes_popPair (p : Fin 4) :
    Encodes (byteOf 3 (2 * p) 1) [] (Instr.popPair (stackPairOfCode p)) := by
  fin_cases p <;> exact ofOpcode rfl rfl rfl fun _ _ => rfl

theorem encodes_pushPair (p : Fin 4) :
    Encodes (byteOf 3 (2 * p) 5) [] (Instr.pushPair (stackPairOfCode p)) := by
  fin_cases p <;> exact ofOpcode rfl rfl rfl fun _ _ => rfl

theorem encodes_jrCc (c : Fin 4) (e : Byte) :
    Encodes (byteOf 0 (c + 4) 0) [e] (Instr.jrCc (condOfCode c) e) := by
  fin_cases c <;> exact ofByte rfl rfl rfl fun _ => rfl

theorem encodes_retCc (c : Fin 4) :
    Encodes (byteOf 3 c 0) [] (Instr.retCc (condOfCode c)) := by
  fin_cases c <;> exact ofOpcode rfl rfl rfl fun _ _ => rfl

theorem encodes_jpCc (c : Fin 4) (x : Word) :
    Encodes (byteOf 3 c 2) [lowByte x, highByte x] (Instr.jpCc (condOfCode c) x) := by
  fin_cases c <;> exact ofWord rfl rfl rfl fun _ _ => rfl

theorem encodes_callCc (c : Fin 4) (x : Word) :
    Encodes (byteOf 3 c 4) [lowByte x, highByte x] (Instr.callCc (condOfCode c) x) := by
  fin_cases c <;> exact ofWord rfl rfl rfl fun _ _ => rfl

/-! The instructions that stand alone. -/

theorem encodes_nop : Encodes 0x00 [] .nop := ofOpcode rfl rfl rfl fun _ _ => rfl
theorem encodes_stop : Encodes 0x10 [] .stop := ofOpcode rfl rfl rfl fun _ _ => rfl
theorem encodes_ret : Encodes 0xC9 [] .ret := ofOpcode rfl rfl rfl fun _ _ => rfl
theorem encodes_reti : Encodes 0xD9 [] .reti := ofOpcode rfl rfl rfl fun _ _ => rfl
theorem encodes_jpHl : Encodes 0xE9 [] .jpHl := ofOpcode rfl rfl rfl fun _ _ => rfl
theorem encodes_ldSpHl : Encodes 0xF9 [] .ldSpHl := ofOpcode rfl rfl rfl fun _ _ => rfl
theorem encodes_ldAtCA : Encodes 0xE2 [] .ldAtCA := ofOpcode rfl rfl rfl fun _ _ => rfl
theorem encodes_ldAAtC : Encodes 0xF2 [] .ldAAtC := ofOpcode rfl rfl rfl fun _ _ => rfl
theorem encodes_di : Encodes 0xF3 [] .di := ofOpcode rfl rfl rfl fun _ _ => rfl
theorem encodes_ei : Encodes 0xFB [] .ei := ofOpcode rfl rfl rfl fun _ _ => rfl
theorem encodes_jrE8 (e : Byte) : Encodes 0x18 [e] (.jrE8 e) := ofByte rfl rfl rfl fun _ => rfl
theorem encodes_ldhAtA8A (n : Byte) : Encodes 0xE0 [n] (.ldhAtA8A n) :=
  ofByte rfl rfl rfl fun _ => rfl
theorem encodes_addSpE8 (e : Byte) : Encodes 0xE8 [e] (.addSpE8 e) :=
  ofByte rfl rfl rfl fun _ => rfl
theorem encodes_ldhAAtA8 (n : Byte) : Encodes 0xF0 [n] (.ldhAAtA8 n) :=
  ofByte rfl rfl rfl fun _ => rfl
theorem encodes_ldHlSpE8 (e : Byte) : Encodes 0xF8 [e] (.ldHlSpE8 e) :=
  ofByte rfl rfl rfl fun _ => rfl
theorem encodes_ldAtA16Sp (x : Word) : Encodes 0x08 [lowByte x, highByte x] (.ldAtA16Sp x) :=
  ofWord rfl rfl rfl fun _ _ => rfl
theorem encodes_jpA16 (x : Word) : Encodes 0xC3 [lowByte x, highByte x] (.jpA16 x) :=
  ofWord rfl rfl rfl fun _ _ => rfl
theorem encodes_callA16 (x : Word) : Encodes 0xCD [lowByte x, highByte x] (.callA16 x) :=
  ofWord rfl rfl rfl fun _ _ => rfl
theorem encodes_ldAtA16A (x : Word) : Encodes 0xEA [lowByte x, highByte x] (.ldAtA16A x) :=
  ofWord rfl rfl rfl fun _ _ => rfl
theorem encodes_ldAAtA16 (x : Word) : Encodes 0xFA [lowByte x, highByte x] (.ldAAtA16 x) :=
  ofWord rfl rfl rfl fun _ _ => rfl

/-- The eleven opcodes of R136. -/
theorem encodes_illegal {op : Byte} (h : op ∈ illegalOpcodes) : Encodes op [] (.illegal op) := by
  have hwf : (Instr.illegal op).wf = true := List.contains_iff_mem.2 h
  simp only [illegalOpcodes, List.mem_cons, List.not_mem_nil, or_false] at h
  rcases h with rfl | rfl | rfl | rfl | rfl | rfl | rfl | rfl | rfl | rfl | rfl <;>
    exact ofOpcode hwf rfl rfl fun _ _ => rfl

/-! ## Decoding undoes encoding -/

/-- Every well-formed instruction other than PREFIX CB has an opcode byte and an operand. -/
theorem exists_encodes_of_wf {i : Instr} (hwf : i.wf = true) (hi : i ≠ .prefixCb) :
    ∃ op operand, Encodes op operand i := by
  cases i using Instr.byForm with
  | h_class01 d z =>
    obtain ⟨y, rfl⟩ := exists_r8OfCode d
    obtain ⟨z, rfl⟩ := exists_r8OfCode z
    exact ⟨_, _, encodes_class01 y z⟩
  | h_aluR8 o r =>
    obtain ⟨y, rfl⟩ := exists_aluOfCode o
    obtain ⟨z, rfl⟩ := exists_r8OfCode r
    exact ⟨_, _, encodes_aluR8 y z⟩
  | h_aluN8 o n => obtain ⟨y, rfl⟩ := exists_aluOfCode o; exact ⟨_, _, encodes_aluN8 y n⟩
  | h_incR8 r => obtain ⟨y, rfl⟩ := exists_r8OfCode r; exact ⟨_, _, encodes_incR8 y⟩
  | h_decR8 r => obtain ⟨y, rfl⟩ := exists_r8OfCode r; exact ⟨_, _, encodes_decR8 y⟩
  | h_ldR8N8 r n => obtain ⟨y, rfl⟩ := exists_r8OfCode r; exact ⟨_, _, encodes_ldR8N8 y n⟩
  | h_ldPairN16 p nn => obtain ⟨p, rfl⟩ := exists_pairOfCode p; exact ⟨_, _, encodes_ldPairN16 p nn⟩
  | h_addHlPair p => obtain ⟨p, rfl⟩ := exists_pairOfCode p; exact ⟨_, _, encodes_addHlPair p⟩
  | h_incPair p => obtain ⟨p, rfl⟩ := exists_pairOfCode p; exact ⟨_, _, encodes_incPair p⟩
  | h_decPair p => obtain ⟨p, rfl⟩ := exists_pairOfCode p; exact ⟨_, _, encodes_decPair p⟩
  | h_pushPair p => obtain ⟨p, rfl⟩ := exists_stackPairOfCode p; exact ⟨_, _, encodes_pushPair p⟩
  | h_popPair p => obtain ⟨p, rfl⟩ := exists_stackPairOfCode p; exact ⟨_, _, encodes_popPair p⟩
  | h_storeInd p => obtain ⟨p, rfl⟩ := exists_indOfCode p; exact ⟨_, _, encodes_storeInd p⟩
  | h_loadInd p => obtain ⟨p, rfl⟩ := exists_indOfCode p; exact ⟨_, _, encodes_loadInd p⟩
  | h_accOp o => obtain ⟨y, rfl⟩ := exists_accOfCode o; exact ⟨_, _, encodes_accOp y⟩
  | h_jrCc cc e => obtain ⟨c, rfl⟩ := exists_condOfCode cc; exact ⟨_, _, encodes_jrCc c e⟩
  | h_jpCc cc x => obtain ⟨c, rfl⟩ := exists_condOfCode cc; exact ⟨_, _, encodes_jpCc c x⟩
  | h_callCc cc x => obtain ⟨c, rfl⟩ := exists_condOfCode cc; exact ⟨_, _, encodes_callCc c x⟩
  | h_retCc cc => obtain ⟨c, rfl⟩ := exists_condOfCode cc; exact ⟨_, _, encodes_retCc c⟩
  | h_rst y => exact ⟨_, _, encodes_rst y⟩
  | h_rot o r =>
    obtain ⟨y, rfl⟩ := exists_rotOfCode o
    obtain ⟨z, rfl⟩ := exists_r8OfCode r
    exact ⟨_, _, encodes_rot y z⟩
  | h_bit y r => obtain ⟨z, rfl⟩ := exists_r8OfCode r; exact ⟨_, _, encodes_bit y z⟩
  | h_res y r => obtain ⟨z, rfl⟩ := exists_r8OfCode r; exact ⟨_, _, encodes_res y z⟩
  | h_set y r => obtain ⟨z, rfl⟩ := exists_r8OfCode r; exact ⟨_, _, encodes_set y z⟩
  | h_nop => exact ⟨_, _, encodes_nop⟩
  | h_stop => exact ⟨_, _, encodes_stop⟩
  | h_di => exact ⟨_, _, encodes_di⟩
  | h_ei => exact ⟨_, _, encodes_ei⟩
  | h_illegal op => exact ⟨_, _, encodes_illegal (List.contains_iff_mem.1 hwf)⟩
  | h_prefixCb => exact absurd rfl hi
  | h_ldAtA16Sp x => exact ⟨_, _, encodes_ldAtA16Sp x⟩
  | h_jrE8 e => exact ⟨_, _, encodes_jrE8 e⟩
  | h_ldhAtA8A n => exact ⟨_, _, encodes_ldhAtA8A n⟩
  | h_ldhAAtA8 n => exact ⟨_, _, encodes_ldhAAtA8 n⟩
  | h_ldAtCA => exact ⟨_, _, encodes_ldAtCA⟩
  | h_ldAAtC => exact ⟨_, _, encodes_ldAAtC⟩
  | h_ldAtA16A x => exact ⟨_, _, encodes_ldAtA16A x⟩
  | h_ldAAtA16 x => exact ⟨_, _, encodes_ldAAtA16 x⟩
  | h_addSpE8 e => exact ⟨_, _, encodes_addSpE8 e⟩
  | h_ldHlSpE8 e => exact ⟨_, _, encodes_ldHlSpE8 e⟩
  | h_ldSpHl => exact ⟨_, _, encodes_ldSpHl⟩
  | h_ret => exact ⟨_, _, encodes_ret⟩
  | h_reti => exact ⟨_, _, encodes_reti⟩
  | h_jpHl => exact ⟨_, _, encodes_jpHl⟩
  | h_jpA16 x => exact ⟨_, _, encodes_jpA16 x⟩
  | h_callA16 x => exact ⟨_, _, encodes_callA16 x⟩

/-- Settles O2: an instruction's group says how its bytes decode; PREFIX CB is its byte alone
(log 12). -/
theorem decodeReadsBackEveryEncoding : Obligations.DecodeReadsBackEveryEncoding := by
  intro i rest hwf hprefix
  by_cases hi : i = .prefixCb
  · rw [hprefix hi, hi]
    rfl
  · obtain ⟨op, operand, e⟩ := exists_encodes_of_wf hwf hi
    rw [e.encode_eq]
    exact e.decode_append rest

/-! ## Encoding undoes decoding -/

section Tree

variable (y z : Fin 8) (b1 b2 : Byte)

/-- Class 00 (R131). -/
theorem exists_encodes_class0 : ∃ n i, Encodes (byteOf 0 y z) ([b1, b2].take n) i := by
  obtain ⟨p, hpair⟩ := exists_eq_two_mul_or y
  obtain ⟨c, hcond⟩ := exists_eq_or_eq_add_four y
  match z with
  | 0 =>
    rcases hcond with h | h <;> rw [h]
    · match c with
      | 0 => exact ⟨0, _, encodes_nop⟩
      | 1 => exact ⟨2, _, (encodes_ldAtA16Sp (wordOf b2 b1)).toBytes⟩
      | 2 => exact ⟨0, _, encodes_stop⟩
      | 3 => exact ⟨1, _, encodes_jrE8 b1⟩
    · exact ⟨1, _, encodes_jrCc c b1⟩
  | 1 =>
    rcases hpair with h | h <;> rw [h]
    · exact ⟨2, _, (encodes_ldPairN16 p (wordOf b2 b1)).toBytes⟩
    · exact ⟨0, _, encodes_addHlPair p⟩
  | 2 =>
    rcases hpair with h | h <;> rw [h]
    · exact ⟨0, _, encodes_storeInd p⟩
    · exact ⟨0, _, encodes_loadInd p⟩
  | 3 =>
    rcases hpair with h | h <;> rw [h]
    · exact ⟨0, _, encodes_incPair p⟩
    · exact ⟨0, _, encodes_decPair p⟩
  | 4 => exact ⟨0, _, encodes_incR8 y⟩
  | 5 => exact ⟨0, _, encodes_decR8 y⟩
  | 6 => exact ⟨1, _, encodes_ldR8N8 y b1⟩
  | 7 => exact ⟨0, _, encodes_accOp y⟩

/-- The extended table (R135). -/
theorem exists_encodes_extended : ∃ i, Encodes 0xCB [b1] i := by
  obtain ⟨x, y, z, rfl⟩ := exists_byteOf b1
  match x with
  | 0 => exact ⟨_, encodes_rot y z⟩
  | 1 => exact ⟨_, encodes_bit y z⟩
  | 2 => exact ⟨_, encodes_res y z⟩
  | 3 => exact ⟨_, encodes_set y z⟩

/-- Class 11, with 0xCB as the opcode byte of the extended table (R134, R135). -/
theorem exists_encodes_class3 : ∃ n i, Encodes (byteOf 3 y z) ([b1, b2].take n) i := by
  obtain ⟨p, hpair⟩ := exists_eq_two_mul_or y
  obtain ⟨c, hcond⟩ := exists_eq_or_eq_add_four y
  match z with
  | 0 =>
    rcases hcond with h | h <;> rw [h]
    · exact ⟨0, _, encodes_retCc c⟩
    · match c with
      | 0 => exact ⟨1, _, encodes_ldhAtA8A b1⟩
      | 1 => exact ⟨1, _, encodes_addSpE8 b1⟩
      | 2 => exact ⟨1, _, encodes_ldhAAtA8 b1⟩
      | 3 => exact ⟨1, _, encodes_ldHlSpE8 b1⟩
  | 1 =>
    rcases hpair with h | h <;> rw [h]
    · exact ⟨0, _, encodes_popPair p⟩
    · match p with
      | 0 => exact ⟨0, _, encodes_ret⟩
      | 1 => exact ⟨0, _, encodes_reti⟩
      | 2 => exact ⟨0, _, encodes_jpHl⟩
      | 3 => exact ⟨0, _, encodes_ldSpHl⟩
  | 2 =>
    rcases hcond with h | h <;> rw [h]
    · exact ⟨2, _, (encodes_jpCc c (wordOf b2 b1)).toBytes⟩
    · match c with
      | 0 => exact ⟨0, _, encodes_ldAtCA⟩
      | 1 => exact ⟨2, _, (encodes_ldAtA16A (wordOf b2 b1)).toBytes⟩
      | 2 => exact ⟨0, _, encodes_ldAAtC⟩
      | 3 => exact ⟨2, _, (encodes_ldAAtA16 (wordOf b2 b1)).toBytes⟩
  | 3 =>
    match y with
    | 0 => exact ⟨2, _, (encodes_jpA16 (wordOf b2 b1)).toBytes⟩
    | 1 => exact ⟨1, exists_encodes_extended b1⟩
    | 2 => exact ⟨0, _, encodes_illegal (op := 0xD3) (by decide)⟩
    | 3 => exact ⟨0, _, encodes_illegal (op := 0xDB) (by decide)⟩
    | 4 => exact ⟨0, _, encodes_illegal (op := 0xE3) (by decide)⟩
    | 5 => exact ⟨0, _, encodes_illegal (op := 0xEB) (by decide)⟩
    | 6 => exact ⟨0, _, encodes_di⟩
    | 7 => exact ⟨0, _, encodes_ei⟩
  | 4 =>
    rcases hcond with h | h <;> rw [h]
    · exact ⟨2, _, (encodes_callCc c (wordOf b2 b1)).toBytes⟩
    · have hmem : ∀ c : Fin 4, byteOf 3 (c + 4) 4 ∈ illegalOpcodes := by decide
      exact ⟨0, _, encodes_illegal (hmem c)⟩
  | 5 =>
    rcases hpair with h | h <;> rw [h]
    · exact ⟨0, _, encodes_pushPair p⟩
    · match p with
      | 0 => exact ⟨2, _, (encodes_callA16 (wordOf b2 b1)).toBytes⟩
      | 1 => exact ⟨0, _, encodes_illegal (op := 0xDD) (by decide)⟩
      | 2 => exact ⟨0, _, encodes_illegal (op := 0xED) (by decide)⟩
      | 3 => exact ⟨0, _, encodes_illegal (op := 0xFD) (by decide)⟩
  | 6 => exact ⟨1, _, encodes_aluN8 y b1⟩
  | 7 => exact ⟨0, _, encodes_rst y⟩

end Tree

/-- Every opcode byte, with the bytes after it that it takes, is an instruction. -/
theorem exists_encodes (op b1 b2 : Byte) : ∃ n i, Encodes op ([b1, b2].take n) i := by
  obtain ⟨x, y, z, rfl⟩ := exists_byteOf op
  match x with
  | 0 => exact exists_encodes_class0 y z b1 b2
  | 1 => exact ⟨0, _, encodes_class01 y z⟩
  | 2 => exact ⟨0, _, encodes_aluR8 y z⟩
  | 3 => exact exists_encodes_class3 y z b1 b2

/-- An opcode byte has at most two bytes after it. -/
theorem operandBytes_le_two (op : Byte) : operandBytes op ≤ 2 := by
  obtain ⟨n, i, e⟩ := exists_encodes op 0 0
  rw [← e.length_eq, List.length_take]
  exact Nat.min_le_right _ _

/-- Bytes that are enough for their opcode byte begin with an instruction. -/
theorem exists_encodes_append {op : Byte} {tail : List Byte} (hle : operandBytes op ≤ tail.length) :
    ∃ operand rest i, Encodes op operand i ∧ tail = operand ++ rest := by
  obtain ⟨n, i, e⟩ := exists_encodes op (tail.getD 0 0) (tail.getD 1 0)
  refine ⟨_, tail.drop (operandBytes op), i, e, ?_⟩
  have hlen := e.length_eq
  rw [← hlen] at hle ⊢
  match n, tail with
  | 0, _ => rfl
  | 1, _ :: _ => rfl
  | _ + 2, _ :: _ :: _ => simp
  | 1, [] => simp at hle
  | _ + 2, [] => simp at hle
  | _ + 2, [_] => simp at hle

/-- What decodes: the byte of PREFIX CB alone, or the bytes of an instruction and more. -/
theorem decode_eq_ok {bytes rest : List Byte} {i : Instr} (h : decode bytes = .ok (i, rest)) :
    (bytes = [0xCB] ∧ i = .prefixCb ∧ rest = [])
      ∨ ∃ op operand, Encodes op operand i ∧ bytes = op :: (operand ++ rest) := by
  cases bytes with
  | nil => cases h
  | cons op tail =>
    by_cases hcb : op = 0xCB ∧ tail = []
    · obtain ⟨rfl, rfl⟩ := hcb
      cases h
      exact .inl ⟨rfl, rfl, rfl⟩
    · by_cases hle : operandBytes op ≤ tail.length
      · obtain ⟨operand, rest', j, e, rfl⟩ := exists_encodes_append hle
        rw [e.decode_append] at h
        cases h
        exact .inr ⟨op, operand, e, rfl⟩
      · rw [decode, if_neg hcb, if_pos (not_le.1 hle)] at h
        cases h

/-- Settles O3: what decodes is PREFIX CB or the bytes of an instruction. -/
theorem encodeGivesBackTheDecodedBytes : Obligations.EncodeGivesBackTheDecodedBytes := by
  intro bytes rest i h
  rcases decode_eq_ok h with ⟨rfl, rfl, rfl⟩ | ⟨op, operand, e, rfl⟩
  · exact ⟨rfl, rfl⟩
  · exact ⟨e.wf, by rw [e.encode_eq, List.cons_append]⟩

/-! ## The decoder as a whole (30_encoding.md R136, R137) -/

/-- An illegal instruction comes only from its own opcode byte, one of the eleven. -/
theorem mem_illegal_of_decode {op x : Byte} {tail rest : List Byte}
    (h : decode (op :: tail) = .ok (.illegal x, rest)) : op ∈ Spec.illegal := by
  obtain ⟨hwf, hbytes⟩ := encodeGivesBackTheDecodedBytes _ _ _ h
  have hop : x = op := (List.cons.inj hbytes).1
  exact hop ▸ List.contains_iff_mem.1 hwf

/-- Settles O4: no opcode byte takes more than two bytes, and both round trips hold of the illegal
instruction. -/
theorem decoderIsTotal : Obligations.DecoderIsTotal := by
  intro op b1 b2 after
  have hillegal (h : op ∈ Spec.illegal) :
      decode (op :: b1 :: b2 :: after) = .ok (.illegal op, b1 :: b2 :: after) :=
    (encodes_illegal h).decode_append (b1 :: b2 :: after)
  have hle := operandBytes_le_two op
  refine ⟨⟨_, _, decode_cons (by simp) (by simp only [List.length_cons]; omega), ?_⟩,
    ⟨fun ⟨x, rest, h⟩ => mem_illegal_of_decode h, fun h => ⟨_, _, hillegal h⟩⟩, hillegal⟩
  simp only [List.length_drop, List.length_cons]
  omega

/-! ## The bit fields (30_encoding.md R122, R123, R128, R129) -/

theorem codes_getD (z : Fin 8) : Spec.codes.getD z .atHl = r8OfCode z := by fin_cases z <;> rfl
theorem aluCodes_getD (y : Fin 8) : Spec.aluCodes.getD y .cp = aluOfCode y := by
  fin_cases y <;> rfl
theorem rotCodes_getD (y : Fin 8) : Spec.rotCodes.getD y .srl = rotOfCode y := by
  fin_cases y <;> rfl

/-- Settles O5: the groups of the decode tree, with the codes of the tables. -/
theorem fieldsSelectTheOperation : Obligations.FieldsSelectTheOperation := by
  intro y z n rest
  dsimp only
  rw [codes_getD, codes_getD, aluCodes_getD, rotCodes_getD]
  refine ⟨(encodes_class01 y z).decode_append rest, (encodes_aluR8 y z).decode_append rest, ?_, ?_,
    (encodes_rot y z).decode_append rest, (encodes_bit y z).decode_append rest,
    (encodes_res y z).decode_append rest, (encodes_set y z).decode_append rest⟩
  · rintro rfl
    exact (encodes_aluN8 y n).decode_append rest
  · rintro rfl
    exact (encodes_rst y).decode_append rest

/-! ## A word of every family -/

/-- Settles O1: each word is evaluated. -/
theorem decodesAWordOfEveryFamily : Obligations.DecodesAWordOfEveryFamily :=
  ⟨rfl, rfl, rfl, rfl, rfl, rfl, rfl, rfl, rfl, rfl, rfl, rfl, rfl, rfl, rfl, rfl, rfl, rfl, rfl, rfl,
    rfl, rfl, rfl⟩

end Sys2Proof.Machine

/-! # Every instruction and every step completes under TRUE_MIRROR (30_encoding.md R137)

Only a Bus access can be refused, and with TRUE_MIRROR every address has a meaning; the laws of the
operations then give the next state, the fault of an unwritten read being one (log 8). -/

namespace Sys2Proof.Machine

variable {s : State}

/-! ## Reads of registers and flags, and what goes on after them -/

/-- Reads of registers and flags end in the fault of an unwritten one, or go on. -/
theorem exists_stopsUnread_or (names : List RegName) (len : Nat) {Q : State → Prop}
    (h : ∃ t, Q t) :
    ∃ t, s.stopsUnread names len t ∨ s.firstUnwritten names = none ∧ Q t := by
  cases hn : s.firstUnwritten names with
  | some n => exact ⟨_, .inl ⟨n, hn, rfl⟩⟩
  | none =>
    obtain ⟨t, ht⟩ := h
    exact ⟨t, .inr ⟨rfl, ht⟩⟩

/-- An operation that reads registers and flags first completes if what follows can. -/
theorem completes_of_law {o : Res State} {names : List RegName} {len : Nat} {Q : State → Prop}
    (law : ∀ {t}, o = .next t ↔
      s.stopsUnread names len t ∨ s.firstUnwritten names = none ∧ Q t)
    (h : ∃ t, Q t) : ∃ t, o = .next t :=
  (exists_stopsUnread_or names len h).imp fun _ => law.2

/-- A jump, call or return that is taken or not. -/
theorem ite_completes {c : Bool} {o : Res State} (h : ∃ t, o = .next t) :
    ∃ t, (if c then o else .next s) = .next t := by
  cases c with
  | true => exact h
  | false => exact ⟨s, rfl⟩

/-- The accumulator operations make no Bus access. -/
theorem accOp_completes (o : AccOp) : ∃ t, exec (Instr.accOp o) s = .next t := by
  rw [exec_accOp]
  cases o with
  | scf => exact ⟨_, rfl⟩
  | _ => exact completes_of_law reading_next_next_iff ⟨_, rfl⟩

/-! ## The opcode fetch (40_step_and_system.md R201) -/

@[simp] theorem State.pastOpcode_config : s.pastOpcode.config = s.config := by
  unfold State.pastOpcode
  split <;> rfl

theorem fetchOpcode_eq (h : s.reaches s.pc = true) :
    fetchOpcode s = .next (s.loadByte s.pc, (s.afterLoad s.pc).pastOpcode) := by
  rw [fetchOpcode, memRead_eq s h, andThen_next]

section TrueMirror

variable (hm : s.config.echo = .trueMirror)
include hm

/-! ## The operations that reach the Bus -/

theorem r8Reaches_of_trueMirror (r : R8) : s.r8Reaches r = true := by
  cases r with
  | reg r => rfl
  | atHl => exact s.reaches_of_trueMirror hm _

/-- An operation that reads an operand and then more registers and flags. -/
theorem completes_of_operand_law {o : Res State} {names more : List RegName} {len : Nat} {r : R8}
    {Q : State → Prop}
    (law : ∀ {t}, o = .next t ↔
      s.stopsUnread names len t ∨ s.firstUnwritten names = none ∧ s.r8Reaches r = true ∧
        ((s.afterR8 r).stopsUnread more len t ∨ s.firstUnwritten more = none ∧ Q t))
    (h : ∃ t, Q t) : ∃ t, o = .next t := by
  have hmore := exists_stopsUnread_or (s := s.afterR8 r) more len h
  rw [State.firstUnwritten_afterR8] at hmore
  exact completes_of_law law (hmore.imp fun _ => .intro (r8Reaches_of_trueMirror hm r))

theorem rotR8_completes (o : RotOp) (r : R8) : ∃ t, rotR8 o r s = .next t :=
  completes_of_operand_law hm rotR8_next_iff ⟨_, rfl⟩

theorem bitR8_completes (b : Nat) (r : R8) : ∃ t, bitR8 b r s = .next t :=
  completes_of_law bitR8_next_iff ⟨_, r8Reaches_of_trueMirror hm r, rfl⟩

theorem resR8_completes (b : Nat) (r : R8) : ∃ t, resR8 b r s = .next t :=
  completes_of_law resR8_next_iff ⟨_, r8Reaches_of_trueMirror hm r, rfl⟩

theorem setR8_completes (b : Nat) (r : R8) : ∃ t, setR8 b r s = .next t :=
  completes_of_law setR8_next_iff ⟨_, r8Reaches_of_trueMirror hm r, rfl⟩

theorem extendedRule_completes (b : Byte) : ∃ t, extendedRule b s = .next t := by
  unfold extendedRule
  split
  · exact rotR8_completes hm _ _
  · exact bitR8_completes hm _ _
  · exact resR8_completes hm _ _
  · exact setR8_completes hm _ _

theorem callFrom_completes (len : Nat) (x : Word) : ∃ t, callFrom len x s = .next t :=
  completes_of_law callFrom_next_iff
    ⟨_, ⟨s.reaches_of_trueMirror hm _, s.reaches_of_trueMirror hm _⟩, rfl⟩

theorem ret_completes : ∃ t, ret s = .next t :=
  completes_of_law ret_next_iff
    ⟨_, ⟨s.reaches_of_trueMirror hm _, s.reaches_of_trueMirror hm _⟩, rfl⟩

theorem callIf_completes (cc : Cond) (x : Word) : ∃ t, callIf cc x s = .next t := by
  unfold callIf
  split
  · exact ⟨_, rfl⟩
  · exact completes_of_law reading_next_iff (ite_completes (callFrom_completes hm 3 x))

theorem storeA_completes (x : Word) : ∃ t, storeA x s = .next t :=
  ⟨_, storeA_next_iff.2 ⟨s.reaches_of_trueMirror hm x, rfl⟩⟩

theorem loadA_completes (x : Word) : ∃ t, loadA x s = .next t :=
  ⟨_, loadA_next_iff.2 ⟨s.reaches_of_trueMirror hm x, rfl⟩⟩

theorem prefixExtended_completes : ∃ t, prefixExtended s = .next t := by
  rw [prefixExtended, fetchImm8_eq s (s.reaches_of_trueMirror hm _), andThen_next]
  exact extendedRule_completes (by simpa using hm) _

/-- Every instruction completes. -/
theorem exec_completes (i : Instr) : ∃ t, exec i s = .next t := by
  have hr : ∀ x, s.reaches x = true := s.reaches_of_trueMirror hm
  have hr8 : ∀ r, s.r8Reaches r = true := r8Reaches_of_trueMirror hm
  cases i using Instr.byForm with
  | h_class01 d z =>
    rw [exec_class01]
    split
    · exact ⟨_, rfl⟩
    · exact completes_of_law ldR8R8_next_iff ⟨_, ⟨hr8 z, hr8 d⟩, rfl⟩
  | h_aluR8 o r => rw [exec_aluR8]; exact completes_of_operand_law hm aluR8_next_iff ⟨_, rfl⟩
  | h_aluN8 o n => rw [exec_aluN8]; exact completes_of_law reading_next_next_iff ⟨_, rfl⟩
  | h_incR8 r => rw [exec_incR8]; exact completes_of_law incR8_next_iff ⟨_, hr8 r, rfl⟩
  | h_decR8 r => rw [exec_decR8]; exact completes_of_law decR8_next_iff ⟨_, hr8 r, rfl⟩
  | h_ldR8N8 r n => rw [exec_ldR8N8]; exact completes_of_law ldR8N8_next_iff ⟨_, hr8 r, rfl⟩
  | h_ldPairN16 p nn => rw [exec_ldPairN16]; exact ⟨_, rfl⟩
  | h_addHlPair p => rw [exec_addHlPair]; exact completes_of_law reading_next_next_iff ⟨_, rfl⟩
  | h_incPair p => rw [exec_incPair]; exact completes_of_law reading_next_next_iff ⟨_, rfl⟩
  | h_decPair p => rw [exec_decPair]; exact completes_of_law reading_next_next_iff ⟨_, rfl⟩
  | h_pushPair p =>
    rw [exec_pushPair]; exact completes_of_law pushPair_next_iff ⟨_, ⟨hr _, hr _⟩, rfl⟩
  | h_popPair p =>
    rw [exec_popPair]; exact completes_of_law popPair_next_iff ⟨_, ⟨hr _, hr _⟩, rfl⟩
  | h_storeInd p => rw [exec_storeInd]; exact completes_of_law storeAInd_next_iff ⟨_, hr _, rfl⟩
  | h_loadInd p => rw [exec_loadInd]; exact completes_of_law loadAInd_next_iff ⟨_, hr _, rfl⟩
  | h_accOp o => exact accOp_completes o
  | h_jrCc cc e =>
    rw [exec_jrCc]; exact completes_of_law reading_next_iff (ite_completes ⟨_, rfl⟩)
  | h_jpCc cc x =>
    rw [exec_jpCc]; exact completes_of_law reading_next_iff (ite_completes ⟨_, rfl⟩)
  | h_callCc cc x => rw [exec_callCc]; exact callIf_completes hm cc x
  | h_retCc cc =>
    rw [exec_retCc]; exact completes_of_law reading_next_iff (ite_completes (ret_completes hm))
  | h_rst y => rw [exec_rst]; exact callFrom_completes hm 1 _
  | h_rot o r => rw [exec_rot]; exact rotR8_completes hm o r
  | h_bit b r => rw [exec_bit]; exact bitR8_completes hm b r
  | h_res b r => rw [exec_res]; exact resR8_completes hm b r
  | h_set b r => rw [exec_set]; exact setR8_completes hm b r
  | h_nop => exact ⟨_, rfl⟩
  | h_stop => exact ⟨_, rfl⟩
  | h_di => exact ⟨_, rfl⟩
  | h_ei => exact ⟨_, rfl⟩
  | h_illegal op => exact ⟨_, rfl⟩
  | h_prefixCb => exact prefixExtended_completes hm
  | h_ldAtA16Sp x => exact completes_of_law storeSp_next_iff ⟨_, ⟨hr _, hr _⟩, rfl⟩
  | h_jrE8 e => exact ⟨_, rfl⟩
  | h_ldhAtA8A n => exact completes_of_law reading_next_iff (storeA_completes hm _)
  | h_ldhAAtA8 n => exact loadA_completes hm _
  | h_ldAtCA => exact completes_of_law reading_next_iff (storeA_completes hm _)
  | h_ldAAtC => exact completes_of_law reading_next_iff (loadA_completes hm _)
  | h_ldAtA16A x => exact completes_of_law reading_next_iff (storeA_completes hm x)
  | h_ldAAtA16 x => exact loadA_completes hm x
  | h_addSpE8 e => exact completes_of_law reading_next_next_iff ⟨_, rfl⟩
  | h_ldHlSpE8 e => exact completes_of_law reading_next_next_iff ⟨_, rfl⟩
  | h_ldSpHl => exact completes_of_law reading_next_next_iff ⟨_, rfl⟩
  | h_ret => exact ret_completes hm
  | h_reti => exact completes_of_law reti_next_iff ⟨_, ⟨hr _, hr _⟩, rfl⟩
  | h_jpHl => exact completes_of_law reading_next_next_iff ⟨_, rfl⟩
  | h_jpA16 x => exact ⟨_, rfl⟩
  | h_callA16 x => exact callFrom_completes hm 3 x

/-! ## The fetch and the step (40_step_and_system.md R200 to R203) -/

theorem fetchOperand_completes (n : Nat) : ∃ p, fetchOperand n s = .next p := by
  induction n generalizing s with
  | zero => exact ⟨_, rfl⟩
  | succ n ih =>
    obtain ⟨p, hp⟩ := ih (s := (s.afterLoad s.pc).setPc (s.pc + 1)) (by simpa using hm)
    rw [fetchOperand, fetchImm8_eq s (s.reaches_of_trueMirror hm _), andThen_next]
    dsimp only
    rw [hp]
    exact ⟨_, rfl⟩

theorem fetchInstr_completes : ∃ p, fetchInstr s = .next p := by
  obtain ⟨p, hp⟩ := fetchOperand_completes (s := (s.afterLoad s.pc).pastOpcode)
    (by simpa using hm) (operandBytes (s.loadByte s.pc))
  rw [fetchInstr, fetchBytes, fetchOpcode_eq (s.reaches_of_trueMirror hm _), andThen_next]
  dsimp only
  split
  · exact ⟨_, rfl⟩
  · rw [hp]
    exact ⟨_, rfl⟩

/-- Every step without a latched fault completes: a parked one in the same state (log 9). -/
theorem step_completes (hfault : s.fault = none) : ∃ t, step s = .next t := by
  rw [step, hfault]
  dsimp only
  split
  · exact ⟨s, rfl⟩
  · obtain ⟨⟨i, s1⟩, hfetch⟩ := fetchInstr_completes hm
    have hsame : s.SameFixed s1 :=
      (kept_sameFixed s).fetchInstr ⟨rfl, rfl, Cartridge.Same.refl s.cart⟩ hfetch
    rw [hfetch, andThen_next]
    exact exec_completes (hsame.1 ▸ hm) i

end TrueMirror

/-- Settles O47: only a Bus access is refused, and with TRUE_MIRROR none is. -/
theorem everyInstructionCompletes : Obligations.EveryInstructionCompletes :=
  fun _ hm => ⟨exec_completes hm, step_completes hm⟩

end Sys2Proof.Machine

/-! # The fetch, the step and the system instructions: the family of 40_step_and_system.md

The fetch is written out once (`fetchBytes_eq`, `fetchOperand_succ`), and a step that is neither latched
nor parked is the instruction its bytes select (`step_of_fetchBytes`); the statements follow. -/

namespace Sys2Proof.Machine

variable {s t : State} {op : Byte}

/-! ## The fetch (40_step_and_system.md R201, R203; 46_control_transfer.md R346) -/

/-- The model's test of `UNIMPL_CCALL` is the rule's. -/
theorem unimplementedCall_iff {config : Config} :
    unimplementedCall config op = true ↔ Spec.unimplemented config.unimplCcall op := by
  unfold unimplementedCall Spec.unimplemented
  split <;> simp_all

theorem unimplementedCall_eq_false_iff {config : Config} :
    unimplementedCall config op = false ↔ ¬ Spec.unimplemented config.unimplCcall op := by
  rw [← unimplementedCall_iff, Bool.not_eq_true]

/-- The state after the opcode fetch: pc has advanced unless the CPU is halted (R201). -/
theorem State.pastOpcode_afterLoad : (s.afterLoad s.pc).pastOpcode =
    if s.halted then s.afterLoad s.pc else (s.afterLoad s.pc).setPc (s.pc + 1) := by
  rw [State.pastOpcode, State.afterLoad_halted, State.afterLoad_pc]

/-- The opcode byte, and its operand bytes unless `UNIMPL_CCALL` names it. -/
theorem fetchBytes_eq (h : s.reaches s.pc = true) : fetchBytes s =
    if unimplementedCall s.config (s.loadByte s.pc) then
      .next ([s.loadByte s.pc], (s.afterLoad s.pc).pastOpcode)
    else
      andThen (fetchOperand (operandBytes (s.loadByte s.pc)) (s.afterLoad s.pc).pastOpcode)
        fun p => .next (s.loadByte s.pc :: p.1, p.2) := by
  simp only [fetchBytes, fetchOpcode_eq h, andThen_next, State.pastOpcode_config,
    State.afterLoad_config]

/-- One operand byte and the ones after it (R203). -/
theorem fetchOperand_succ (h : s.reaches s.pc = true) (n : Nat) : fetchOperand (n + 1) s =
    andThen (fetchOperand n ((s.afterLoad s.pc).setPc (s.pc + 1)))
      fun p => .next (s.loadByte s.pc :: p.1, p.2) := by
  rw [fetchOperand, fetchImm8_eq s h, andThen_next]

/-- As many operand bytes are fetched as asked for. -/
theorem length_of_fetchOperand {n : Nat} {vs : List Byte} (h : fetchOperand n s = .next (vs, t)) :
    vs.length = n := by
  induction n generalizing s vs with
  | zero => cases h; rfl
  | succ n ih =>
    simp only [fetchOperand, andThen_eq_next] at h
    obtain ⟨_, -, ⟨ws, u⟩, hrest, h⟩ := h
    cases h
    rw [List.length_cons, ih hrest]

/-- An opcode byte that `UNIMPL_CCALL` does not name is fetched with all its operand bytes. -/
theorem length_of_fetchBytes {operand : List Byte} (h : fetchBytes s = .next (op :: operand, t))
    (hop : unimplementedCall s.config op = false) : operand.length = operandBytes op := by
  have hreach : s.reaches s.pc = true := by
    simp only [fetchBytes, fetchOpcode, andThen_eq_next, memRead_next_iff] at h
    obtain ⟨_, ⟨_, ⟨hreach, -⟩, -⟩, -⟩ := h
    exact hreach
  rw [fetchBytes_eq hreach] at h
  split at h
  case isTrue hcall => cases h; rw [hop] at hcall; cases hcall
  case isFalse =>
    obtain ⟨⟨vs, u⟩, hoperand, h⟩ := andThen_eq_next.1 h
    cases h
    exact length_of_fetchOperand hoperand

/-- Settles O6: the fetch by the number of operand bytes. -/
theorem fetchReadsTheBytesAtPc : Obligations.FetchReadsTheBytesAtPc := by
  intro s hreach op s1
  have hs1 : (s.afterLoad s.pc).pastOpcode = s1 := State.pastOpcode_afterLoad
  have hconfig : s1.config = s.config := by
    rw [← hs1, State.pastOpcode_config, State.afterLoad_config]
  have hfetch := fetchBytes_eq hreach
  rw [hs1] at hfetch
  refine ⟨fun hcall => hfetch.trans (if_pos (unimplementedCall_iff.2 hcall)), fun hcall => ?_⟩
  rw [if_neg (mt unimplementedCall_iff.1 hcall)] at hfetch
  refine ⟨fun hnone => ?_, fun hreach1 => ?_⟩
  · rw [hfetch, hnone]; rfl
  · rw [← State.reaches_congr hconfig] at hreach1
    refine ⟨fun hone => ?_, fun htwo hreach2 => ?_⟩
    · rw [hfetch, hone, fetchOperand_succ hreach1]; rfl
    · have hreach3 : ((s1.afterLoad s1.pc).setPc (s1.pc + 1)).reaches (s1.pc + 1) = true := by
        rwa [State.reaches_setPc, State.reaches_afterLoad, State.reaches_congr hconfig]
      rw [hfetch, htwo, fetchOperand_succ hreach1, fetchOperand_succ hreach3]; rfl

/-! ## The step (40_step_and_system.md R200, R202) -/

theorem step_of_fault {r : FaultRecord} (h : s.fault = some r) : step s = .fault (.latched r) := by
  rw [step, h]

theorem step_of_parked (hfault : s.fault = none) (h : s.parked = true) : step s = .next s := by
  rw [step, hfault]
  exact if_pos h

theorem State.parked_iff :
    s.parked = true ↔ s.stopped = true ∨ s.halted = true ∧ s.ime = true := by
  rw [State.parked, Bool.or_eq_true, Bool.and_eq_true]

theorem State.parked_eq_false (hstopped : s.stopped = false)
    (hhalted : s.halted = false ∨ s.ime = false) : s.parked = false := by
  rw [State.parked, hstopped, Bool.false_or, Bool.and_eq_false_iff]
  exact hhalted

/-- A running step is the instruction that the fetched bytes select. -/
theorem step_of_fetchBytes {bytes : List Byte} (hfault : s.fault = none) (hparked : s.parked = false)
    (h : fetchBytes s = .next (bytes, t)) : step s = exec (selectInstr s.config bytes) t := by
  have hfetch : fetchInstr s = .next (selectInstr t.config bytes, t) := by
    rw [fetchInstr, h, andThen_next]
  have hsame : s.SameFixed t :=
    (kept_sameFixed s).fetchInstr ⟨rfl, rfl, Cartridge.Same.refl s.cart⟩ hfetch
  simp only [step, hfault, hparked, hfetch, andThen_next, hsame.1, Bool.false_eq_true, if_false]

/-- All the bytes of an instruction decode to the instruction they select. -/
theorem selectInstr_of_decode {config : Config} {operand : List Byte} {i : Instr}
    (hcall : unimplementedCall config op = false) (hlen : operand.length = operandBytes op)
    (h : decode (op :: operand) = .ok (i, [])) : selectInstr config (op :: operand) = i := by
  have hcb : ¬ (op = 0xCB ∧ operand = []) := by
    rintro ⟨rfl, rfl⟩
    cases hlen
  rw [decode_cons hcb hlen.ge] at h
  have hi := congrArg Prod.fst (Except.ok.inj h)
  exact (if_neg (Bool.eq_false_iff.1 hcall)).trans hi

/-- Settles O7: the fetch takes all the bytes of the instruction, so the decoder and the step select the
same one. -/
theorem stepRunsTheDecodedInstruction : Obligations.StepRunsTheDecodedInstruction := by
  intro s s1 op operand i hfault hstopped hhalted hfetch hcall hdecode
  rw [← unimplementedCall_eq_false_iff] at hcall
  rw [step_of_fetchBytes hfault (State.parked_eq_false hstopped hhalted) hfetch,
    selectInstr_of_decode hcall (length_of_fetchBytes hfetch hcall) hdecode]

/-- Settles O8: the step and its report look at the latch first, then at whether the state is parked. -/
theorem latchedAndParkedStepsChangeNothing : Obligations.LatchedAndParkedStepsChangeNothing := by
  refine fun s => ⟨fun r hr => ⟨step_of_fault hr, ?_⟩, fun hfault h => ?_⟩
  · rw [State.report, hr]
  · have hparked := State.parked_iff.2 h
    refine ⟨step_of_parked hfault hparked, ?_⟩
    rw [State.report, hfault]
    exact if_pos hparked

/-! ## The system instructions (40_step_and_system.md R204 to R209) -/

/-- Settles O11: each rule is one update, and STOP, or HALT with IME, parks the state. -/
theorem systemInstructionEffects : Obligations.SystemInstructionEffects := fun _ =>
  ⟨rfl, rfl, rfl, rfl, rfl, fun hfault => step_of_parked hfault (State.parked_iff.2 (.inl rfl)),
    fun hfault hime => step_of_parked hfault (State.parked_iff.2 (.inr ⟨rfl, hime⟩))⟩

/-- The opcode's own address, after the fetch of that one byte. -/
theorem State.opcodeAddress_one :
    s.opcodeAddress 1 = if s.halted then s.pc else s.pc - 1 := by
  rw [State.opcodeAddress, Nat.sub_self, BitVec.sub_zero]
  rfl

/-- The fault leaves pc where the fetch of the opcode byte put it (60_exceptions.md R402, R407). -/
theorem State.raiseIllegal_one :
    s.raiseIllegal op 1 = s.raise (.illegalInstruction op (s.opcodeAddress 1)) := by
  have hpc : (if s.halted then s.opcodeAddress 1 else s.opcodeAddress 1 + 1) = s.pc := by
    rw [State.opcodeAddress_one]
    split
    · rfl
    · exact BitVec.sub_add_cancel s.pc 1
  rw [State.raiseIllegal, hpc]
  rfl

/-- Settles O12: one byte has been fetched, so the opcode's own address is pc, or pc - 1 where pc has
advanced. -/
theorem illegalRaisesTheFault : Obligations.IllegalRaisesTheFault := by
  intro s op
  change Host.Outcome.next (s.raiseIllegal op 1) = _
  rw [State.raiseIllegal_one, State.opcodeAddress_one]
  rfl

/-! ## PREFIX CB (40_step_and_system.md R210) -/

/-- Settles O13: the rule that the extended byte selects is the meaning of the instruction it decodes
to. -/
theorem prefixSelectsTheExtendedTable : Obligations.PrefixSelectsTheExtendedTable := by
  refine fun s => ⟨fun hreach => ?_, fun hm => exec_completes hm .prefixCb⟩
  calc exec .prefixCb s = prefixExtended s := rfl
    _ = extendedRule (s.loadByte s.pc) ((s.afterLoad s.pc).setPc (s.pc + 1)) := by
        rw [prefixExtended, fetchImm8_eq s hreach, andThen_next]
    _ = _ := extendedRule_eq_exec _ _

/-- SET 1,E (45_rotate_shift_bit.md R325). -/
theorem exec_set1E (h : Spec.canRead s [.reg .e]) :
    exec .set1E s = .next (Spec.writeReg s .e (s.e ||| 0x02)) :=
  setR8_next_iff.2 (.inr ⟨canRead_iff.1 h, rfl, rfl⟩)

/-- Settles O10: halted, the operand fetch reads the byte at pc again, and 0xCB 0xCB is SET 1,E. -/
theorem haltedPrefixRunsSetOneE : Obligations.HaltedPrefixRunsSetOneE := by
  intro s hfault hstopped hhalted hime hreach hop hlent he
  have hcall : ¬ Spec.unimplemented s.config.unimplCcall 0xCB := by simp [Spec.unimplemented]
  have hagain : (s.afterLoad s.pc).loadByte s.pc = 0xCB := by
    by_cases h : ∃ l, (s.target s.pc).1 = .lent l
    · exact hlent h
    · rw [State.loadByte_afterLoad (not_exists.1 h), hop]
  have hfetch : fetchBytes s =
      .next ([0xCB, 0xCB], ((s.afterLoad s.pc).afterLoad s.pc).setPc (s.pc + 1)) := by
    rw [fetchBytes_eq hreach, hop, if_neg (mt unimplementedCall_iff.1 hcall),
      State.pastOpcode_afterLoad, if_pos hhalted]
    change andThen (fetchOperand 1 (s.afterLoad s.pc)) _ = _
    rw [fetchOperand_succ (by simpa using hreach), State.afterLoad_pc, hagain]
    rfl
  rw [stepRunsTheDecodedInstruction s _ 0xCB [0xCB] .set1E hfault hstopped (.inr hime) hfetch hcall rfl,
    exec_set1E (by simpa [Spec.canRead, Spec.isWritten] using he), State.setPc_e, State.afterLoad_e,
    State.afterLoad_e]
  rfl

end Sys2Proof.Machine

/-! # The 8-bit loads: the family of 41_loads8.md

One lemma for each form of load says what it leaves where its reads are of what is written and its
address has a meaning; each statement reads these in the words of `Sys2Proof.Spec`. -/

namespace Sys2Proof.Machine

variable {s t : State} {i : Instr}

/-! ## The words of `Sys2Proof.Spec` (00_scope.md R9 to R11, 10_state.md R45) -/

theorem writeReg_eq_setReg (r : Reg) (v : Byte) : Spec.writeReg s r v = s.setReg r v := by
  cases r <;> rfl

theorem hi_eq_highByte (v : Word) : Spec.hi v = highByte v := by
  refine BitVec.eq_of_toNat_eq ?_
  rw [Spec.hi, highByte, BitVec.toNat_ofNat, BitVec.extractLsb'_toNat, Nat.shiftRight_eq_div_pow]

theorem lo_eq_lowByte (v : Word) : Spec.lo v = lowByte v := by
  refine BitVec.eq_of_toNat_eq ?_
  rw [Spec.lo, lowByte, BitVec.toNat_ofNat, BitVec.extractLsb'_toNat, Nat.shiftRight_zero]
  exact Nat.mod_mod ..

theorem writeHl_eq_setHl (v : Word) : Spec.writeHl s v = s.setHl v := by
  rw [Spec.writeHl, hi_eq_highByte, lo_eq_lowByte]; rfl

/-- An instruction runs if it answers `t` where none of the reads listed for its opcode faults. -/
theorem Listed.runs {names : State → List RegName} {regs : List Reg} {sp : Bool} {row : FlagRow}
    (T : Listed (Spec.opcode i) names regs sp row)
    (h : s.firstUnwritten (names s) = none → exec i s = .next t) : Spec.runs i s t := fun hread =>
  h ((congrArg s.firstUnwritten (T.reads s)).symm.trans (canRead_iff.1 hread))

/-! ## Loads between operand codes and of an immediate byte (41_loads8.md R220 to R224) -/

theorem runs_class01 {d z : R8} (hne : ¬ (d = .atHl ∧ z = .atHl)) (hz : s.r8Reaches z = true)
    (hd : s.r8Reaches d = true) :
    Spec.runs (Instr.class01 d z) s ((s.afterR8 z).putR8 d (s.r8Byte z)) :=
  (listed_load hne).runs fun hn => by
    rw [exec_class01, if_neg hne, ldR8R8_next_iff]
    exact .inr ⟨hn, ⟨hz, hd⟩, rfl⟩

theorem exec_ldR8N8_eq {r : R8} (hn : s.firstUnwritten (r8AddressReads r) = none)
    (hr : s.r8Reaches r = true) (n : Byte) :
    exec (Instr.ldR8N8 r n) s = .next (s.putR8 r n) := by
  rw [exec_ldR8N8, ldR8N8_next_iff]
  exact .inr ⟨hn, hr, rfl⟩

/-- Settles O14: the load between two operand codes, and the load of an immediate byte, at the codes of
the registers and of the byte at HL. -/
theorem ldRegistersHlAndImmediate : Obligations.LdRegistersHlAndImmediate := by
  intro s n dst src
  simp only [join_eq_wordOf, writeReg_eq_setReg]
  refine ⟨runs_class01 nofun rfl rfl, exec_ldR8N8_eq s.firstUnwritten_nil rfl n,
    fun hr => ⟨?_, ?_, ?_⟩⟩
  · exact runs_class01 nofun hr rfl
  · exact runs_class01 nofun rfl hr
  · exact (listed_ldR8N8 .atHl n).runs fun hn => exec_ldR8N8_eq hn hr n

/-! ## Loads between A and an address (41_loads8.md R225 to R238) -/

section

variable {names : State → List RegName} {regs : List Reg} {sp : Bool} {row : FlagRow} {x : Word}

/-- An instruction that stores A to an address once its reads are made. -/
theorem Listed.runs_storeA (T : Listed (Spec.opcode i) names regs sp row)
    (h : s.firstUnwritten (names s) = none → exec i s = storeA x s) (hr : s.reaches x = true) :
    Spec.runs i s (s.store x s.a) :=
  T.runs fun hn => (h hn).trans (storeA_next_iff.2 ⟨hr, rfl⟩)

/-- An instruction that loads A from an address once its reads are made. -/
theorem Listed.runs_loadA (T : Listed (Spec.opcode i) names regs sp row)
    (h : s.firstUnwritten (names s) = none → exec i s = loadA x s) (hr : s.reaches x = true) :
    Spec.runs i s ((s.afterLoad x).setReg .a (s.loadByte x)) :=
  T.runs fun hn => (h hn).trans (loadA_next_iff.2 ⟨hr, rfl⟩)

end

/-! ### Through a pair (R225 to R232) -/

theorem runs_storeInd {p : IndAddr} (hr : s.reaches (s.indAddress p) = true) :
    Spec.runs (Instr.storeInd p) s ((s.store (s.indAddress p) s.a).afterInd p) :=
  (listed_storeInd p).runs fun hn => by
    rw [exec_storeInd, storeAInd_next_iff]
    exact .inr ⟨hn, hr, rfl⟩

theorem runs_loadInd {p : IndAddr} (hr : s.reaches (s.indAddress p) = true) :
    Spec.runs (Instr.loadInd p) s
      (((s.afterLoad (s.indAddress p)).setReg .a (s.loadByte (s.indAddress p))).afterInd p) :=
  (listed_loadInd p).runs fun hn => by
    rw [exec_loadInd, loadAInd_next_iff]
    exact .inr ⟨hn, hr, rfl⟩

/-- The access leaves HL, so the step is of the HL before it. -/
theorem State.afterInd_hlInc (h : t.hl = s.hl) : t.afterInd .hlInc = t.setHl (s.hl + 1) := by
  rw [State.afterInd, h]

theorem State.afterInd_hlDec (h : t.hl = s.hl) : t.afterInd .hlDec = t.setHl (s.hl - 1) := by
  rw [State.afterInd, h]

/-- Loading A leaves HL. -/
theorem State.hl_loaded (x : Word) (v : Byte) : ((s.afterLoad x).setReg .a v).hl = s.hl :=
  State.hl_afterLoad s x

/-- Settles O15: the store and the load through a pair, at each pair. -/
theorem ldAccumulatorThroughPairs : Obligations.LdAccumulatorThroughPairs := by
  intro s
  simp only [join_eq_wordOf, writeReg_eq_setReg, writeHl_eq_setHl]
  refine ⟨fun hr => ⟨runs_storeInd (p := .bc) hr, runs_loadInd (p := .bc) hr⟩,
    fun hr => ⟨runs_storeInd (p := .de) hr, runs_loadInd (p := .de) hr⟩,
    fun hr => ⟨?_, ?_, ?_, ?_⟩⟩
  · exact State.afterInd_hlInc (State.hl_store ..) ▸ runs_storeInd (p := .hlInc) hr
  · exact State.afterInd_hlDec (State.hl_store ..) ▸ runs_storeInd (p := .hlDec) hr
  · exact State.afterInd_hlInc (State.hl_loaded ..) ▸ runs_loadInd (p := .hlInc) hr
  · exact State.afterInd_hlDec (State.hl_loaded ..) ▸ runs_loadInd (p := .hlDec) hr

/-! ### In the 0xFF00 page and at an absolute address (R233 to R238; 20_memory.md R70, R71) -/

theorem toNat_highAddress (n : Byte) : (highAddress n).toNat = 0xFF00 + n.toNat := by
  rw [highAddress_eq_ofNat, BitVec.toNat_ofNat]
  exact Nat.mod_eq_of_lt (by omega)

theorem State.reaches_highAddress (n : Byte) : s.reaches (highAddress n) = true :=
  State.reaches_of_meaning (.inr (.inr (by rw [toNat_highAddress]; omega)))

theorem State.target_highAddress_io {n : Byte} (h : n.toNat ≤ 0x7F) :
    s.target (highAddress n) = (.lent .io, n.toNat) := by
  have hx := toNat_highAddress n
  rw [State.target, translateAddress_io (by omega) (by omega), hx, Nat.add_sub_cancel_left]

theorem State.target_highAddress_highRam {n : Byte} (h : 0x80 ≤ n.toNat) :
    s.target (highAddress n) = (.highRam, n.toNat - 0x80) := by
  have hx := toNat_highAddress n
  rw [State.target_highRam (by omega), hx, Nat.add_sub_add_left 0xFF00 n.toNat 0x80]

/-- Settles O16: every address of the page has a meaning, and each form is one store or load of A once
its reads are made. -/
theorem ldHighPageAndAbsolute : Obligations.LdHighPageAndAbsolute := by
  intro s n x
  simp only [← highAddress_eq_ofNat, writeReg_eq_setReg]
  refine ⟨State.target_highAddress_io, State.target_highAddress_highRam, ?_, ?_, ?_, ?_,
    fun hr => ⟨?_, ?_⟩⟩
  · exact (listed_ldhAtA8A n).runs_storeA (reading_of_none · 2 _) (State.reaches_highAddress n)
  · exact (listed_ldhAAtA8 n).runs_loadA (fun _ => rfl) (State.reaches_highAddress n)
  · exact listed_ldAtCA.runs_storeA (reading_of_none · 1 _) (State.reaches_highAddress s.c)
  · exact listed_ldAAtC.runs_loadA (reading_of_none · 1 _) (State.reaches_highAddress s.c)
  · exact (listed_ldAtA16A x).runs_storeA (reading_of_none · 3 _) hr
  · exact (listed_ldAAtA16 x).runs_loadA (fun _ => rfl) hr

end Sys2Proof.Machine

/-! # The 16-bit loads and the stack: the family of 42_loads16_stack.md

The words of `Sys2Proof.Spec` for pairs, flags, `Push16` and `Pop16` are the model's operations; each
form then answers by its law, once its reads are made. -/

namespace Sys2Proof.Machine

variable {s : State}

/-! ## The words of `Sys2Proof.Spec` (00_scope.md R10, R11, R14; 10_state.md R22, R45) -/

theorem writeSp_eq_setSp (v : Word) : Spec.writeSp s v = s.setSp v := rfl

theorem writeBc_eq_setBc (v : Word) : Spec.writeBc s v = s.setBc v := by
  rw [Spec.writeBc, hi_eq_highByte, lo_eq_lowByte]; rfl

theorem writeDe_eq_setDe (v : Word) : Spec.writeDe s v = s.setDe v := by
  rw [Spec.writeDe, hi_eq_highByte, lo_eq_lowByte]; rfl

theorem writePair_eq_setPair (p : Pair) (v : Word) : Spec.writePair s p v = s.setPair p v := by
  cases p with
  | bc => exact writeBc_eq_setBc v
  | de => exact writeDe_eq_setDe v
  | hl => exact writeHl_eq_setHl v
  | sp => exact writeSp_eq_setSp v

/-- All four flags written. -/
theorem flagged_eq_setFlags (z n h c : Bool) :
    Spec.flagged s z n h c = s.setFlags ⟨z, n, h, c⟩ := rfl

theorem fByte_eq_toByte (f : Flags) : Spec.fByte f = f.toByte := by
  obtain ⟨z, n, h, c⟩ := f
  revert z n h c
  decide

theorem readStackPair_eq_getStackPair (p : StackPair) :
    Spec.readStackPair s p = s.getStackPair p := by
  cases p with
  | af => rw [Spec.readStackPair, fByte_eq_toByte, join_eq_wordOf]; rfl
  | _ => exact join_eq_wordOf ..

/-- The signed sum modulo 65536 is the sum with the sign-extended byte. -/
theorem offsetBy_eq_add_displacement (v : Word) (e : Byte) :
    Spec.offsetBy v e = v + displacement e := by
  rw [Spec.offsetBy, BitVec.ofInt_add, displacement, BitVec.signExtend, BitVec.ofInt_natCast,
    BitVec.ofNat_toNat, BitVec.setWidth_eq]

theorem sub_two_eq (v : Word) : v - 2 = v - 1 - 1 := by bv_omega

theorem add_two_eq (v : Word) : v + 2 = v + 1 + 1 := by bv_omega

theorem push_eq_pushed (v : Word) : Spec.push s v = s.pushed v := by
  rw [Spec.push, hi_eq_highByte, lo_eq_lowByte, sub_two_eq]
  rfl

/-- A read of the Bus and a write of SP commute. -/
theorem State.afterLoad_setSp (v x : Word) : (s.setSp v).afterLoad x = (s.afterLoad x).setSp v := by
  rw [State.afterLoad, State.afterLoad, State.target_setSp]
  cases (s.target x).1 <;> rfl

@[simp] theorem State.setSp_setSp (v w : Word) : (s.setSp v).setSp w = s.setSp w := rfl

theorem afterPop_eq_popped : Spec.afterPop s = s.popped := by
  rw [Spec.afterPop, writeSp_eq_setSp, add_two_eq, State.popped, State.afterLoad_setSp,
    State.setSp_setSp]

theorem popped_eq_poppedWord : Spec.popped s = s.poppedWord := by
  rw [Spec.popped, State.poppedWord, join_eq_wordOf, State.loadByte_setSp]

/-- The flags that POP AF loads are bits 7 to 4 of the word popped (42_loads16_stack.md R256). -/
theorem Flags.ofByte_lowByte (v : Word) : Flags.ofByte (lowByte v) =
    ⟨v.getLsbD 7, v.getLsbD 6, v.getLsbD 5, v.getLsbD 4⟩ := by
  simp [Flags.ofByte, lowByte]

/-! ## Loads of a pair and of SP (42_loads16_stack.md R250 to R252) -/

/-- Settles O17: both are one write, that of SP once HL is read. -/
theorem ldPairsAndSp : Obligations.LdPairsAndSp := by
  refine fun s => ⟨fun p nn => ?_, ?_⟩
  · rw [exec_ldPairN16, writePair_eq_setPair]; rfl
  · rw [join_eq_wordOf]
    exact listed_ldSpHl.runs (reading_of_none · 1 _)

/-- Settles O18: two stores, the second at the next address modulo 65536. -/
theorem ldStoresSpInTwoBytes : Obligations.LdStoresSpInTwoBytes := by
  intro s x hlow hhigh
  rw [lo_eq_lowByte, hi_eq_highByte]
  exact (listed_ldAtA16Sp x).runs fun hn => storeSp_next_iff.2 (.inr ⟨hn, ⟨hlow, hhigh⟩, rfl⟩)

/-! ## SP plus a displacement (42_loads16_stack.md R253, 44_alu16.md R303) -/

theorem nibble_eq_mod (v : Byte) : nibble v = v.toNat % 16 :=
  (BitVec.toNat_and ..).trans (Nat.and_two_pow_sub_one_eq_mod v.toNat 4)

theorem toNat_lowByte (v : Word) : (lowByte v).toNat = v.toNat % 256 := by
  rw [lowByte, BitVec.extractLsb'_toNat, Nat.shiftRight_zero]

/-- H and C are the carries of the unsigned sum of SP's low byte and the raw displacement. -/
theorem spOffsetFlags_eq (sp : Word) (e : Byte) : spOffsetFlags sp e =
    ⟨false, false, decide (sp.toNat % 16 + e.toNat % 16 > 0x0F),
      decide (sp.toNat % 256 + e.toNat > 0xFF)⟩ := by
  have hnibble : sp.toNat % 256 % 16 = sp.toNat % 16 := Nat.mod_mod_of_dvd _ (by decide)
  rw [spOffsetFlags, nibble_eq_mod, nibble_eq_mod, toNat_lowByte, hnibble]

/-- Settles O19: one write of the sum and one of the four flags, once SP is read. -/
theorem spPlusDisplacement : Obligations.SpPlusDisplacement := by
  intro s e
  simp only [offsetBy_eq_add_displacement, writeHl_eq_setHl, writeSp_eq_setSp, flagged_eq_setFlags,
    ← spOffsetFlags_eq]
  exact ⟨(listed_ldHlSpE8 e).runs (reading_of_none · 2 _),
    (listed_addSpE8 e).runs (reading_of_none · 2 _)⟩

/-! ## The stack (42_loads16_stack.md R254 to R256) -/

/-- Settles O20: the word pushed is the pair's, and the pushed state is `Push16`'s. -/
theorem pushStoresThePair : Obligations.PushStoresThePair := by
  intro s p hhigh hlow
  rw [sub_two_eq] at hlow
  rw [push_eq_pushed, readStackPair_eq_getStackPair]
  refine (listed_pushPair p).runs fun hn => ?_
  rw [exec_pushPair, pushPair_next_iff]
  exact .inr ⟨hn, ⟨hhigh, hlow⟩, rfl⟩

/-- POP of a pair leaves it with the word `Pop16` returns. -/
theorem runs_popPair (hlow : s.reaches s.sp = true) (hhigh : s.reaches (s.sp + 1) = true)
    (p : StackPair) :
    Spec.runs (Instr.popPair p) s ((Spec.afterPop s).setStackPair p (Spec.popped s)) :=
  (listed_popPair p).runs fun hn => by
    rw [exec_popPair, popPair_next_iff, afterPop_eq_popped, popped_eq_poppedWord]
    exact .inr ⟨hn, ⟨hlow, hhigh⟩, rfl⟩

/-- Settles O21: POP at each pair; AF takes its flags from the low byte. -/
theorem popLoadsThePair : Obligations.PopLoadsThePair := by
  intro s hlow hhigh
  simp only [writeBc_eq_setBc, writeDe_eq_setDe, writeHl_eq_setHl, writeReg_eq_setReg,
    hi_eq_highByte, flagged_eq_setFlags, ← Flags.ofByte_lowByte]
  exact ⟨runs_popPair hlow hhigh .bc, runs_popPair hlow hhigh .de, runs_popPair hlow hhigh .hl,
    runs_popPair hlow hhigh .af⟩

end Sys2Proof.Machine

/-! # The 8-bit arithmetic and logic: the family of 43_alu8.md

The words of `Sys2Proof.Spec` for results and flags, on natural numbers and integers, are the model's
operations on bytes; each form of instruction then answers by its law, once its reads are made. -/

namespace Sys2Proof.Machine

variable {s t u : State}

/-! ## Flags written (10_state.md R23, R45) -/

theorem flagged_eq_writeFlags (z n h c : Option Bool) :
    Spec.flagged s z n h c = s.writeFlags ⟨z, n, h, c⟩ := rfl

@[simp] theorem State.a_afterR8 (r : R8) : (s.afterR8 r).a = s.a := by
  cases r with
  | reg r => rfl
  | atHl => exact s.afterLoad_a s.hl

@[simp] theorem State.flags_afterR8 (r : R8) : (s.afterR8 r).flags = s.flags := by
  cases r with
  | reg r => rfl
  | atHl => exact s.afterLoad_flags s.hl

/-! ## Sums and differences of bytes (00_scope.md R10) -/

theorem carryByte_eq_ofNat (c : Bool) : carryByte c = BitVec.ofNat 8 c.toNat := by cases c <;> rfl

theorem add_carryByte_false (b : Byte) : b + carryByte false = b := BitVec.add_zero b

theorem sub_carryByte_false (b : Byte) : b - carryByte false = b := BitVec.sub_zero b

/-- The byte `wrap8` leaves of a sum with carry (43_alu8.md R271, R272). -/
theorem ofNat_sum_eq_add (a v : Byte) (c : Bool) :
    BitVec.ofNat 8 ((a.toNat + v.toNat + c.toNat) % 256) = a + v + carryByte c := by
  rw [carryByte_eq_ofNat]
  bv_omega

/-- The byte `wrap8` leaves of a difference with borrow (43_alu8.md R273, R274). -/
theorem ofInt_difference_eq_sub (a v : Byte) (c : Bool) :
    BitVec.ofInt 8 ((a.toNat : Int) - v.toNat - c.toNat) = a - v - carryByte c := by
  simp only [Int.sub_eq_add_neg, BitVec.ofInt_add, BitVec.ofInt_neg, BitVec.ofInt_natCast,
    BitVec.ofNat_toNat, BitVec.setWidth_eq, BitVec.sub_eq_add_neg, carryByte_eq_ofNat]

theorem ofInt_eq_zero_iff (i : Int) : BitVec.ofInt 8 i = 0 ↔ i % 256 = 0 := by
  rw [← BitVec.toNat_inj, BitVec.toNat_ofInt]
  change (i % 256).toNat = 0 ↔ i % 256 = 0
  omega

theorem ofNat_eq_zero_iff (n : Nat) : BitVec.ofNat 8 n = 0 ↔ n % 256 = 0 := by
  rw [← BitVec.toNat_inj, BitVec.toNat_ofNat]
  rfl

/-- The flags of ADD and ADC, on natural numbers (43_alu8.md R271, R272). -/
theorem addFlags_eq (a v : Byte) (c : Bool) : addFlags a v c =
    ⟨decide ((a.toNat + v.toNat + c.toNat) % 256 = 0), false,
      decide (a.toNat % 16 + v.toNat % 16 + c.toNat > 0x0F),
      decide (a.toNat + v.toNat + c.toNat > 0xFF)⟩ := by
  have hz : a + v + carryByte c = 0 ↔ (a.toNat + v.toNat + c.toNat) % 256 = 0 := by
    rw [← ofNat_sum_eq_add, ofNat_eq_zero_iff, Nat.mod_mod]
  rw [addFlags, nibble_eq_mod, nibble_eq_mod, decide_eq_decide.2 hz]

/-- The flags of SUB, SBC and CP, on integers (43_alu8.md R273, R274, R278). -/
theorem subFlags_eq (a v : Byte) (c : Bool) : subFlags a v c =
    ⟨decide (((a.toNat : Int) - v.toNat - c.toNat) % 256 = 0), true,
      decide (a.toNat % 16 < v.toNat % 16 + c.toNat), decide (a.toNat < v.toNat + c.toNat)⟩ := by
  have hz : a - v - carryByte c = 0 ↔ ((a.toNat : Int) - v.toNat - c.toNat) % 256 = 0 := by
    rw [← ofInt_difference_eq_sub, ofInt_eq_zero_iff]
  rw [subFlags, nibble_eq_mod, nibble_eq_mod, decide_eq_decide.2 hz]

/-! ## The words of `Sys2Proof.Spec` for an ALU operation on A -/

theorem add_eq_setFlags (v : Byte) (c : Bool) : Spec.add s v c =
    (s.setReg .a (s.a + v + carryByte c)).setFlags (addFlags s.a v c) := by
  rw [addFlags_eq, ← ofNat_sum_eq_add]
  rfl

theorem compare_eq_setFlags (v : Byte) (c : Bool) :
    Spec.compare s v c = s.setFlags (subFlags s.a v c) := by
  rw [subFlags_eq]
  rfl

theorem sub_eq_setFlags (v : Byte) (c : Bool) : Spec.sub s v c =
    (s.setReg .a (s.a - v - carryByte c)).setFlags (subFlags s.a v c) := by
  rw [Spec.sub, compare_eq_setFlags, ofInt_difference_eq_sub]
  rfl

theorem State.alu_add (v : Byte) : s.alu .add v = Spec.add s v false := by
  rw [add_eq_setFlags, add_carryByte_false]
  rfl

theorem State.alu_adc (v : Byte) : s.alu .adc v = Spec.add s v s.flags.c := by
  rw [add_eq_setFlags]
  rfl

theorem State.alu_sub (v : Byte) : s.alu .sub v = Spec.sub s v false := by
  rw [sub_eq_setFlags, sub_carryByte_false]
  rfl

theorem State.alu_sbc (v : Byte) : s.alu .sbc v = Spec.sub s v s.flags.c := by
  rw [sub_eq_setFlags]
  rfl

theorem State.alu_cp (v : Byte) : s.alu .cp v = Spec.compare s v false := by
  rw [compare_eq_setFlags]
  rfl

theorem State.alu_and (v : Byte) : s.alu .and v = Spec.logic s (s.a &&& v) true := rfl

theorem State.alu_xor (v : Byte) : s.alu .xor v = Spec.logic s (s.a ^^^ v) false := rfl

theorem State.alu_or (v : Byte) : s.alu .or v = Spec.logic s (s.a ||| v) false := rfl

/-! ## ALU operations on an operand code and on an immediate byte (43_alu8.md R270 to R278) -/

theorem runs_aluR8 (op : AluOp) {r : R8} (hr : s.r8Reaches r = true) :
    Spec.runs (Instr.aluR8 op r) s ((s.afterR8 r).alu op (s.r8Byte r)) :=
  (listed_aluR8 op r).runs fun hn => by
    rw [State.firstUnwritten_append, Option.or_eq_none_iff] at hn
    rw [exec_aluR8, aluR8_next_iff]
    exact .inr ⟨hn.1, hr, .inr ⟨hn.2, rfl⟩⟩

theorem runs_aluN8 (op : AluOp) (n : Byte) : Spec.runs (Instr.aluN8 op n) s (s.alu op n) :=
  (listed_aluN8 op n).runs fun hn => by
    rw [exec_aluN8]
    exact reading_of_none hn 2 _

/-- Settles O23: ADD and ADC on each kind of operand are one sum, with carry 0 or C. -/
theorem addAndAdcResults : Obligations.AddAndAdcResults := by
  intro s r n
  rw [← State.alu_add (s := s), ← State.alu_adc (s := s), ← State.alu_add,
    ← State.flags_afterR8 (s := s) r, ← State.alu_adc]
  exact ⟨fun hr => ⟨runs_aluR8 .add hr, runs_aluR8 .adc hr⟩, runs_aluN8 .add n, runs_aluN8 .adc n⟩

/-- Settles O24: SUB and SBC on each kind of operand are one difference, with borrow 0 or C; CP writes
only its flags. -/
theorem subSbcAndCpResults : Obligations.SubSbcAndCpResults := by
  intro s r n
  rw [← State.alu_sub (s := s), ← State.alu_sbc (s := s), ← State.alu_cp (s := s), ← State.alu_sub,
    ← State.alu_cp, ← State.flags_afterR8 (s := s) r, ← State.alu_sbc]
  exact ⟨fun hr => ⟨runs_aluR8 .sub hr, runs_aluR8 .sbc hr, runs_aluR8 .cp hr⟩,
    runs_aluN8 .sub n, runs_aluN8 .sbc n, runs_aluN8 .cp n⟩

/-- Settles O25: each operation leaves its result in A, and H is set by AND only. -/
theorem logicResults : Obligations.LogicResults := by
  intro s r n
  refine ⟨fun hr => ?_, runs_aluN8 .and n, runs_aluN8 .xor n, runs_aluN8 .or n⟩
  rw [← State.a_afterR8 r, ← State.alu_and, ← State.alu_xor, ← State.alu_or]
  exact ⟨runs_aluR8 .and hr, runs_aluR8 .xor hr, runs_aluR8 .or hr⟩

/-! ## INC and DEC (43_alu8.md R279, R280) -/

theorem incFlags_eq (v : Byte) : incFlags v =
    ⟨decide (v = 0xFF), some false, decide (v.toNat % 16 = 0x0F), none⟩ := by
  have hz : v + 1 = 0 ↔ v = 0xFF := by bv_omega
  rw [incFlags, nibble_eq_mod, decide_eq_decide.2 hz]

theorem decFlags_eq (v : Byte) : decFlags v =
    ⟨decide (v = 0x01), some true, decide (v.toNat % 16 = 0x00), none⟩ := by
  have hz : v - 1 = 0 ↔ v = 0x01 := by bv_omega
  rw [decFlags, nibble_eq_mod, decide_eq_decide.2 hz]

/-- Settles O26: the operand read, the operand written, and three flags; the flags depend on the byte
read. -/
theorem incAndDecResults : Obligations.IncAndDecResults := by
  intro s r hr
  simp only [flagged_eq_writeFlags, ← incFlags_eq, ← decFlags_eq]
  refine ⟨(listed_incR8 r).runs fun hn => ?_, (listed_decR8 r).runs fun hn => ?_⟩
  · rw [exec_incR8, incR8_next_iff]
    exact .inr ⟨hn, hr, rfl⟩
  · rw [exec_decR8, decR8_next_iff]
    exact .inr ⟨hn, hr, rfl⟩

/-! ## DAA (43_alu8.md R281) -/

/-- The high digit of A is corrected after an addition: C, or A above 0x99. -/
def daaHigh (f : Flags) (a : Nat) : Bool := f.c || (!f.n && decide (a > 0x99))

/-- The low digit is corrected after an addition: H, or a digit above 9. -/
def daaLow (f : Flags) (a : Nat) : Bool := f.h || (!f.n && decide (a % 16 > 9))

/-- A with its high digit corrected, before it is reduced to a byte. -/
def daaHighCorrected (f : Flags) (a : Nat) : Nat :=
  if f.n then (if f.c then a + 256 - 0x60 else a) else if daaHigh f a then a + 0x60 else a

/-- A with its low digit corrected, before it is reduced to a byte. -/
def daaLowCorrected (f : Flags) (a : Nat) : Nat :=
  if f.n then (if f.h then a + 256 - 0x06 else a) else if daaLow f a then a + 0x06 else a

/-- A with both digits corrected, before it is reduced to a byte. -/
def daaCorrected (f : Flags) (a : Nat) : Nat := daaLowCorrected f (daaHighCorrected f a)

/-- The carry DAA leaves: after a subtraction C is kept. -/
def daaCarry (f : Flags) (a : Nat) : Bool := if f.n then f.c else daaHigh f a

/-- A byte less than 256 taken from a number, modulo 256. -/
theorem ofNat_add_256_sub (a k : Nat) (hk : k < 256) :
    BitVec.ofNat 8 (a + 256 - k) = BitVec.ofNat 8 a - BitVec.ofNat 8 k := by bv_omega

theorem nibble_ofNat (a : Nat) : nibble (BitVec.ofNat 8 a) = a % 16 := by
  rw [nibble_eq_mod, BitVec.toNat_ofNat]
  exact Nat.mod_mod_of_dvd a (by decide)

theorem ofNat_daaHighCorrected (f : Flags) (a : Byte) :
    BitVec.ofNat 8 (daaHighCorrected f a.toNat) =
      if f.n then (if f.c then a - 0x60 else a) else if daaHigh f a.toNat then a + 0x60 else a := by
  have ha : BitVec.ofNat 8 a.toNat = a := (BitVec.ofNat_toNat 8 a).trans a.setWidth_eq
  rw [daaHighCorrected, apply_ite (BitVec.ofNat 8), apply_ite (BitVec.ofNat 8),
    apply_ite (BitVec.ofNat 8), ofNat_add_256_sub _ _ (by decide), BitVec.ofNat_add, ha]
  rfl

theorem ofNat_daaLowCorrected (f : Flags) (m : Nat) :
    BitVec.ofNat 8 (daaLowCorrected f m) =
      if f.n then (if f.h then BitVec.ofNat 8 m - 0x06 else BitVec.ofNat 8 m)
      else if f.h || (!f.n && decide (nibble (BitVec.ofNat 8 m) > 9)) then BitVec.ofNat 8 m + 0x06
      else BitVec.ofNat 8 m := by
  rw [daaLowCorrected, apply_ite (BitVec.ofNat 8), apply_ite (BitVec.ofNat 8),
    apply_ite (BitVec.ofNat 8), ofNat_add_256_sub _ _ (by decide), BitVec.ofNat_add, nibble_ofNat]
  rfl

/-- DAA on bytes is DAA on natural numbers, reduced to a byte. -/
theorem daaAdjust_eq (f : Flags) (a : Byte) :
    daaAdjust a f = (BitVec.ofNat 8 (daaCorrected f a.toNat), daaCarry f a.toNat) := by
  rw [daaCorrected, ofNat_daaLowCorrected, ofNat_daaHighCorrected]
  cases hn : f.n with
  | true => simp only [daaAdjust, daaCarry, hn, if_true]
  | false => simp only [daaAdjust, daaCarry, daaHigh, hn, Bool.not_false, Bool.true_and,
      Bool.false_eq_true, if_false]

/-- DAA once its reads are made. -/
theorem exec_daa_eq (hn : s.firstUnwritten [.reg .a, .flag .c, .flag .n, .flag .h] = none) :
    exec .daa s = .next ((s.setReg .a (daaAdjust s.a s.flags).1).writeFlags
      ⟨some (decide ((daaAdjust s.a s.flags).1 = 0)), none, some false,
        some (daaAdjust s.a s.flags).2⟩) :=
  reading_of_none hn 1 _

/-! ## CPL, SCF and CCF (43_alu8.md R282 to R284) -/

/-- Settles O27: DAA corrects the two digits on natural numbers, and each of the others is one write of
flags once its reads are made. -/
theorem daaCplScfCcfResults : Obligations.DaaCplScfCcfResults := by
  intro s
  simp only [writeReg_eq_setReg, flagged_eq_writeFlags]
  refine ⟨listed_daa.runs fun hn => ?_, listed_cpl.runs (reading_of_none · 1 _), rfl,
    fun hread => ccf_next_iff.2 (.inr ⟨canRead_iff.1 hread, rfl⟩)⟩
  rw [exec_daa_eq hn, daaAdjust_eq, decide_eq_decide.2 (ofNat_eq_zero_iff _), daaCarry,
    apply_ite some]
  rfl

/-! ## DAA after ADD and SUB of packed decimal bytes (43_alu8.md R271, R273, R281) -/

section

variable {f : Flags} {a : Nat}

theorem daaHigh_of_add (hn : f.n = false) : daaHigh f a = (f.c || decide (a > 0x99)) := by
  rw [daaHigh, hn, Bool.not_false, Bool.true_and]

theorem daaLow_of_add (hn : f.n = false) : daaLow f a = (f.h || decide (a % 16 > 9)) := by
  rw [daaLow, hn, Bool.not_false, Bool.true_and]

/-- The correction of the high digit leaves the low one, so both can be told from A itself. -/
theorem daaCorrected_of_add (hn : f.n = false) : daaCorrected f a =
    a + (if daaHigh f a then 0x60 else 0) + (if daaLow f a then 0x06 else 0) := by
  have hfirst : daaHighCorrected f a = a + if daaHigh f a then 0x60 else 0 := by
    rw [daaHighCorrected, hn, if_neg Bool.false_ne_true]
    split <;> rfl
  have hlow : daaLow f (daaHighCorrected f a) = daaLow f a := by
    have hmod : daaHighCorrected f a % 16 = a % 16 := by
      rw [hfirst]
      split <;> omega
    rw [daaLow, hmod, daaLow]
  rw [daaCorrected, daaLowCorrected, hlow, hn, if_neg Bool.false_ne_true, hfirst]
  split <;> rfl

theorem daaCorrected_of_sub (hn : f.n = true) : daaCorrected f a =
    a + (if f.c then 256 - 0x60 else 0) + (if f.h then 256 - 0x06 else 0) := by
  rw [daaCorrected, daaLowCorrected, daaHighCorrected, hn, if_pos rfl, if_pos rfl]
  split <;> split <;> rfl

end

/-- A number below 100 as a packed decimal byte: its digits are the byte's nibbles. -/
def bcd (v : Nat) : Byte := BitVec.ofNat 8 (v / 10 * 16 + v % 10)

theorem exists_digits {v : Nat} (h : v < 100) : ∃ d e, d < 10 ∧ e < 10 ∧ v = 10 * d + e :=
  ⟨v / 10, v % 10, by omega, by omega, by omega⟩

theorem ofNat_eq_bcd {a v d e : Nat} (he : e < 10) (hv : v = 10 * d + e)
    (ha : a % 256 = 16 * d + e) : BitVec.ofNat 8 a = bcd v := by
  refine BitVec.eq_of_toNat_eq ?_
  rw [bcd, BitVec.toNat_ofNat, BitVec.toNat_ofNat]
  omega

section

variable {p q m n : Nat} (hp : p < 10) (hq : q < 10) (hm : m < 10) (hn : n < 10)

include hp hq in
theorem toNat_bcd : (bcd (10 * p + q)).toNat = 16 * p + q := by
  rw [bcd, BitVec.toNat_ofNat]
  omega

include hp hq hm hn

/-- The sum with 0x60 added where it has a decimal carry, and 6 where its low digit has one. -/
theorem ofNat_corrected_sum : BitVec.ofNat 8 ((16 * p + q + (16 * m + n)) % 256
      + (if 10 * p + q + (10 * m + n) ≥ 100 then 0x60 else 0) + (if q + n ≥ 10 then 0x06 else 0)) =
    bcd ((10 * p + q + (10 * m + n)) % 100) := by
  by_cases hhigh : 10 * p + q + (10 * m + n) ≥ 100 <;> by_cases hlow : q + n ≥ 10
  · rw [if_pos hhigh, if_pos hlow]
    exact ofNat_eq_bcd (d := p + m - 9) (e := q + n - 10) (by omega) (by omega) (by omega)
  · rw [if_pos hhigh, if_neg hlow]
    exact ofNat_eq_bcd (d := p + m - 10) (e := q + n) (by omega) (by omega) (by omega)
  · rw [if_neg hhigh, if_pos hlow]
    exact ofNat_eq_bcd (d := p + m + 1) (e := q + n - 10) (by omega) (by omega) (by omega)
  · rw [if_neg hhigh, if_neg hlow]
    exact ofNat_eq_bcd (d := p + m) (e := q + n) (by omega) (by omega) (by omega)

/-- The difference with 0x60 taken off where it needs a borrow, and 6 where its low digit needs one. -/
theorem ofNat_corrected_difference : BitVec.ofNat 8 ((256 - (16 * m + n) + (16 * p + q)) % 256
      + (if 10 * p + q < 10 * m + n then 256 - 0x60 else 0) + (if q < n then 256 - 0x06 else 0)) =
    bcd ((10 * p + q + 100 - (10 * m + n)) % 100) := by
  by_cases hhigh : 10 * p + q < 10 * m + n <;> by_cases hlow : q < n
  · rw [if_pos hhigh, if_pos hlow]
    exact ofNat_eq_bcd (d := p + 9 - m) (e := q + 10 - n) (by omega) (by omega) (by omega)
  · rw [if_pos hhigh, if_neg hlow]
    exact ofNat_eq_bcd (d := p + 10 - m) (e := q - n) (by omega) (by omega) (by omega)
  · rw [if_neg hhigh, if_pos hlow]
    exact ofNat_eq_bcd (d := p - m - 1) (e := q + 10 - n) (by omega) (by omega) (by omega)
  · rw [if_neg hhigh, if_neg hlow]
    exact ofNat_eq_bcd (d := p - m) (e := q - n) (by omega) (by omega) (by omega)

/-- After ADD, DAA finds the decimal carry of the whole sum and that of its low digit. -/
theorem daaAdjust_addFlags :
    daaAdjust (bcd (10 * p + q) + bcd (10 * m + n))
        (addFlags (bcd (10 * p + q)) (bcd (10 * m + n)) false) =
      (bcd ((10 * p + q + (10 * m + n)) % 100), decide (10 * p + q + (10 * m + n) ≥ 100)) := by
  have hhigh : 16 * p + q + (16 * m + n) > 0xFF ∨ (16 * p + q + (16 * m + n)) % 256 > 0x99 ↔
      10 * p + q + (10 * m + n) ≥ 100 := by omega
  have hlow : (16 * p + q) % 16 + (16 * m + n) % 16 > 0x0F ∨
      (16 * p + q + (16 * m + n)) % 256 % 16 > 9 ↔ q + n ≥ 10 := by omega
  rw [daaAdjust_eq, addFlags_eq, BitVec.toNat_add, toNat_bcd hp hq, toNat_bcd hm hn, daaCarry,
    daaCorrected_of_add rfl, daaHigh_of_add rfl, daaLow_of_add rfl, if_neg Bool.false_ne_true,
    ← ofNat_corrected_sum hp hq hm hn]
  simp only [Bool.toNat_false, Nat.add_zero, Nat.reducePow, ← Bool.decide_or, decide_eq_true_iff,
    hhigh, hlow]

/-- After SUB, C is the borrow of the whole difference and H that of its low digit. -/
theorem daaAdjust_subFlags :
    daaAdjust (bcd (10 * p + q) - bcd (10 * m + n))
        (subFlags (bcd (10 * p + q)) (bcd (10 * m + n)) false) =
      (bcd ((10 * p + q + 100 - (10 * m + n)) % 100), decide (10 * p + q < 10 * m + n)) := by
  have hhigh : 16 * p + q < 16 * m + n ↔ 10 * p + q < 10 * m + n := by omega
  have hlow : (16 * p + q) % 16 < (16 * m + n) % 16 ↔ q < n := by omega
  rw [daaAdjust_eq, subFlags_eq, BitVec.toNat_sub, toNat_bcd hp hq, toNat_bcd hm hn, daaCarry,
    daaCorrected_of_sub rfl, if_pos rfl, ← ofNat_corrected_difference hp hq hm hn]
  simp only [Bool.toNat_false, Nat.add_zero, Nat.reducePow, decide_eq_true_iff, hhigh, hlow]

end

/-- DAA after an ALU operation on an immediate byte that writes A and does not read the carry. -/
theorem daa_after_aluN8 {op : AluOp} {n b : Byte} (hop : aluCarryReads op = [])
    (hb : aluValue op s.a n s.flags.c = some b) (hread : Spec.canRead s [.reg .a])
    (ht : exec (Instr.aluN8 op n) s = .next t) (hu : exec .daa t = .next u) :
    (u.a, u.flags.c) = daaAdjust b (aluFlags op s.a n s.flags.c) := by
  rw [exec_aluN8, aluN8, aluReads, hop, reading_of_none (canRead_iff.1 hread), next_inj] at ht
  have halu : t = (s.setReg .a b).setFlags (aluFlags op s.a n s.flags.c) := by
    rw [ht, State.alu, show s.getReg .a = s.a from rfl, hb]
  have hn : t.firstUnwritten [.reg .a, .flag .c, .flag .n, .flag .h] = none :=
    State.firstUnwritten_eq_none_iff.2 (.inr (by
      simp [halu, Written.get, State.setReg, Written.mark]))
  rw [exec_daa_eq hn, next_inj, halu] at hu
  rw [hu]
  rfl

/-- Settles O28: the sum, and the difference, of two packed decimal bytes, corrected by DAA. -/
theorem daaCorrectsDecimalSumAndDifference : Obligations.DaaCorrectsDecimalSumAndDifference := by
  intro s t u x y hx hy packed ha hread
  change s.a = bcd x at ha
  obtain ⟨p, q, hp, hq, rfl⟩ := exists_digits hx
  obtain ⟨m, n, hm, hn, rfl⟩ := exists_digits hy
  constructor <;> intro ht hu
  · have h := daa_after_aluN8 (op := .add) rfl rfl hread ht hu
    rw [ha] at h
    exact Prod.ext_iff.1 (h.trans (daaAdjust_addFlags hp hq hm hn))
  · have h := daa_after_aluN8 (op := .sub) rfl rfl hread ht hu
    rw [ha] at h
    exact Prod.ext_iff.1 (h.trans (daaAdjust_subFlags hp hq hm hn))

end Sys2Proof.Machine

/-! # The 16-bit arithmetic: the family of 44_alu16.md

The sum and the carries of ADD HL, on natural numbers, are the model's operations on words; each form
then answers by its law, once its reads are made. -/

namespace Sys2Proof.Machine

variable {s : State}

/-! ## Pairs and sums of words (00_scope.md R10, R11) -/

theorem readPair_eq_getPair (p : Pair) : Spec.readPair s p = s.getPair p := by
  cases p with
  | sp => rfl
  | _ => exact join_eq_wordOf ..

/-- The word `wrap16` leaves of a sum (44_alu16.md R302). -/
theorem ofNat_sum_eq_add_word (a v : Word) :
    BitVec.ofNat 16 ((a.toNat + v.toNat) % 65536) = a + v := by bv_omega

theorem low12_eq_mod (v : Word) : low12 v = v.toNat % 4096 :=
  (BitVec.toNat_and ..).trans (Nat.and_two_pow_sub_one_eq_mod v.toNat 12)

/-- H and C are the carries out of bits 11 and 15, and Z is kept (44_alu16.md R302). -/
theorem addHlFlags_eq (a v : Word) : addHlFlags a v =
    ⟨none, some false, decide (a.toNat % 4096 + v.toNat % 4096 > 0x0FFF),
      decide (a.toNat + v.toNat > 0xFFFF)⟩ := by
  rw [addHlFlags, low12_eq_mod, low12_eq_mod]

/-! ## INC rr, DEC rr and ADD HL,rr (44_alu16.md R300 to R302) -/

theorem runs_incPair (p : Pair) :
    Spec.runs (Instr.incPair p) s (s.setPair p (s.getPair p + 1)) :=
  (listed_incPair p).runs fun hn => (exec_incPair s p).trans (reading_of_none hn 1 _)

theorem runs_decPair (p : Pair) :
    Spec.runs (Instr.decPair p) s (s.setPair p (s.getPair p - 1)) :=
  (listed_decPair p).runs fun hn => (exec_decPair s p).trans (reading_of_none hn 1 _)

theorem runs_addHlPair (p : Pair) :
    Spec.runs (Instr.addHlPair p) s
      ((s.setHl (s.hl + s.getPair p)).writeFlags (addHlFlags s.hl (s.getPair p))) :=
  (listed_addHlPair p).runs fun hn => (exec_addHlPair s p).trans (reading_of_none hn 1 _)

/-- Settles O29: INC and DEC are one write of the pair, ADD HL one of HL and three flags, once the
pairs are read. -/
theorem pairArithmetic : Obligations.PairArithmetic := by
  intro s p
  have hhl : Spec.join s.h s.l = s.hl := join_eq_wordOf ..
  simp only [hhl, readPair_eq_getPair, writePair_eq_setPair, writeHl_eq_setHl,
    ofNat_sum_eq_add_word, flagged_eq_writeFlags, ← addHlFlags_eq]
  exact ⟨runs_incPair p, runs_decPair p, runs_addHlPair p⟩

end Sys2Proof.Machine

/-! # The rotates, shifts and bit operations: the family of 45_rotate_shift_bit.md

The results and carries of the rules, on natural numbers, are the model's operations on bytes; each form
then answers by its law, once its reads are made. -/

namespace Sys2Proof.Machine

variable {s : State}

/-! ## Bits 7 and 0, and bytes put together from disjoint bits (00_scope.md R10) -/

theorem getLsbD_seven (v : Byte) : v.getLsbD 7 = decide (v.toNat / 128 = 1) := by
  have hmod : v.toNat / 128 % 2 = v.toNat / 128 := by omega
  rw [BitVec.getLsbD, Nat.testBit_eq_decide_div_mod_eq, hmod]

theorem getLsbD_zero (v : Byte) : v.getLsbD 0 = decide (v.toNat % 2 = 1) := by
  rw [BitVec.getLsbD, Nat.testBit_zero]

theorem toNat_getLsbD_seven (v : Byte) : (v.getLsbD 7).toNat = v.toNat / 128 := by
  rw [BitVec.getLsbD, Nat.toNat_testBit]
  omega

theorem toNat_getLsbD_zero (v : Byte) : (v.getLsbD 0).toNat = v.toNat % 2 := by
  rw [BitVec.getLsbD, Nat.toNat_testBit, Nat.pow_zero, Nat.div_one]

/-- Bits at and above `k` joined with bits below it: no carry, so the union is the sum. -/
theorem toNat_or_eq_add {x y : Byte} (k : Nat) (hx : x.toNat % 2 ^ k = 0) (hy : y.toNat < 2 ^ k) :
    (x ||| y).toNat = x.toNat + y.toNat := by
  obtain ⟨q, hq⟩ := Nat.dvd_of_mod_eq_zero hx
  rw [BitVec.toNat_or, hq, Nat.two_pow_add_eq_or_of_lt hy]

/-! ## Results and carries (45_rotate_shift_bit.md R315 to R322) -/

/-- The result of a rotate or shift of the byte `v` with carry `c`, as a natural number. -/
def rotNat : RotOp → Nat → Nat → Nat
  | .rlc, v, _ => v * 2 % 256 + v / 128
  | .rrc, v, _ => v / 2 + v % 2 * 128
  | .rl, v, c => v * 2 % 256 + c
  | .rr, v, c => v / 2 + c * 128
  | .sla, v, _ => v * 2 % 256
  | .sra, v, _ => v / 2 + v / 128 * 128
  | .swap, v, _ => v % 16 * 16 + v / 16
  | .srl, v, _ => v / 2

/-- The bit of the byte `v` that a rotate or shift moves out into C; SWAP moves none. -/
def rotOut : RotOp → Nat → Bool
  | .rlc, v => decide (v / 128 = 1)
  | .rrc, v => decide (v % 2 = 1)
  | .rl, v => decide (v / 128 = 1)
  | .rr, v => decide (v % 2 = 1)
  | .sla, v => decide (v / 128 = 1)
  | .sra, v => decide (v % 2 = 1)
  | .swap, _ => false
  | .srl, v => decide (v % 2 = 1)

theorem rotCarry_eq_rotOut (o : RotOp) (v : Byte) : rotCarry o v = rotOut o v.toNat := by
  cases o with
  | swap => rfl
  | rlc | rl | sla => exact getLsbD_seven v
  | rrc | rr | sra | srl => exact getLsbD_zero v

/-- A shift left by one with `c` moved into bit 0. -/
theorem toNat_rotValue_rl (v : Byte) (c : Bool) :
    (rotValue .rl v c).toNat = v.toNat * 2 % 256 + c.toNat := by
  have hleft : (v <<< 1).toNat = v.toNat * 2 % 256 := by
    rw [BitVec.toNat_shiftLeft, Nat.shiftLeft_eq]
  have hcarry : (carryByte c).toNat = c.toNat := by cases c <;> rfl
  have hc : c.toNat < 2 := c.toNat_lt
  rw [rotValue, toNat_or_eq_add 1 (by omega) (by omega), hleft, hcarry]

/-- A shift right by one with `c` moved into bit 7. -/
theorem toNat_rotValue_rr (v : Byte) (c : Bool) :
    (rotValue .rr v c).toNat = v.toNat / 2 + c.toNat * 128 := by
  have hright : (v >>> 1).toNat = v.toNat / 2 := by
    rw [BitVec.toNat_ushiftRight, Nat.shiftRight_one]
  have hcarry : (carryByte c <<< 7).toNat = c.toNat * 128 := by cases c <;> rfl
  rw [rotValue, BitVec.or_comm, toNat_or_eq_add 7 (by omega) (by omega), hright, hcarry,
    Nat.add_comm]

theorem toNat_rotValue_swap (v : Byte) (c : Bool) :
    (rotValue .swap v c).toNat = v.toNat % 16 * 16 + v.toNat / 16 := by
  have hlow : ((v &&& 0x0F) <<< 4).toNat = v.toNat % 16 * 16 := by
    rw [BitVec.toNat_shiftLeft, Nat.shiftLeft_eq, ← nibble, nibble_eq_mod]
    omega
  have hhigh : (v >>> 4).toNat = v.toNat / 16 := by
    rw [BitVec.toNat_ushiftRight, Nat.shiftRight_eq_div_pow]
  rw [rotValue, toNat_or_eq_add 4 (by omega) (by omega), hlow, hhigh]

/-- SLA moves in 0, as RL does with C clear. -/
theorem rotValue_sla (v : Byte) (c : Bool) : rotValue .sla v c = rotValue .rl v false :=
  BitVec.or_zero.symm

/-- SRL moves in 0, as RR does with C clear. -/
theorem rotValue_srl (v : Byte) (c : Bool) : rotValue .srl v c = rotValue .rr v false :=
  BitVec.or_zero.symm

/-- SRA moves in a copy of bit 7, as RR does with that bit in C. -/
theorem rotValue_sra (v : Byte) (c : Bool) : rotValue .sra v c = rotValue .rr v (v.getLsbD 7) := by
  have hsign : v &&& BitVec.twoPow 8 7 = carryByte (v.getLsbD 7) <<< 7 := by
    rw [BitVec.and_twoPow]
    cases v.getLsbD 7 <;> rfl
  exact congrArg (v >>> 1 ||| ·) hsign

theorem toNat_rotValue (o : RotOp) (v : Byte) (c : Bool) :
    (rotValue o v c).toNat = rotNat o v.toNat c.toNat := by
  cases o with
  | rl => exact toNat_rotValue_rl v c
  | rr => exact toNat_rotValue_rr v c
  | swap => exact toNat_rotValue_swap v c
  | rlc => rw [rotNat, ← toNat_getLsbD_seven]; exact toNat_rotValue_rl v (v.getLsbD 7)
  | rrc => rw [rotNat, ← toNat_getLsbD_zero]; exact toNat_rotValue_rr v (v.getLsbD 0)
  | sla => rw [rotValue_sla]; exact toNat_rotValue_rl v false
  | sra => rw [rotValue_sra, rotNat, ← toNat_getLsbD_seven]; exact toNat_rotValue_rr v _
  | srl => rw [rotValue_srl]; exact toNat_rotValue_rr v false

theorem rotValue_eq_ofNat (o : RotOp) (v : Byte) (c : Bool) :
    rotValue o v c = BitVec.ofNat 8 (rotNat o v.toNat c.toNat) := by
  rw [← toNat_rotValue, BitVec.ofNat_toNat, BitVec.setWidth_eq]

theorem rotFlags_eq (o : RotOp) (v : Byte) (c : Bool) : rotFlags o v c =
    ⟨decide (rotNat o v.toNat c.toNat = 0), false, false, rotOut o v.toNat⟩ := by
  have hz : rotValue o v c = 0 ↔ rotNat o v.toNat c.toNat = 0 := by
    rw [← toNat_rotValue]
    exact BitVec.toNat_inj.symm
  rw [rotFlags, rotCarry_eq_rotOut, decide_eq_decide.2 hz]

theorem rotAFlags_eq (o : RotOp) (v : Byte) :
    rotAFlags o v = ⟨false, false, false, rotOut o v.toNat⟩ := by
  rw [rotAFlags, rotCarry_eq_rotOut]

/-! ## The accumulator rotates (45_rotate_shift_bit.md R310 to R313) -/

/-- What an accumulator rotate leaves. -/
def State.rotatedA (s : State) (o : RotOp) : State :=
  Spec.flagged (Spec.writeReg s .a (BitVec.ofNat 8 (rotNat o s.a.toNat s.flags.c.toNat)))
    false false false (rotOut o s.a.toNat)

theorem rotA_eq_rotatedA {o : RotOp} (hn : s.firstUnwritten (.reg .a :: rotCarryReads o) = none) :
    rotA o s = .next (s.rotatedA o) := by
  rw [State.rotatedA, ← rotValue_eq_ofNat, flagged_eq_setFlags, ← rotAFlags_eq]
  exact reading_of_none hn 1 _

/-- Settles O30: each is one rotate of A, with Z always cleared. -/
theorem accumulatorRotates : Obligations.AccumulatorRotates := fun _ =>
  ⟨listed_rlca.runs (rotA_eq_rotatedA (o := .rlc)), listed_rrca.runs (rotA_eq_rotatedA (o := .rrc)),
    listed_rla.runs (rotA_eq_rotatedA (o := .rl)), listed_rra.runs (rotA_eq_rotatedA (o := .rr))⟩

/-! ## The rotates and shifts of the extended table (45_rotate_shift_bit.md R314 to R322) -/

/-- What a rotate or shift of an operand code leaves. -/
def State.rotatedR8 (s : State) (r : R8) (o : RotOp) : State :=
  let n := rotNat o (s.r8Byte r).toNat s.flags.c.toNat
  Spec.flagged ((s.afterR8 r).putR8 r (BitVec.ofNat 8 n)) (decide (n = 0)) false false
    (rotOut o (s.r8Byte r).toNat)

theorem runs_rot (row : RotOp) {r : R8} (hr : s.r8Reaches r = true) :
    Spec.runs (Instr.rot row r) s (s.rotatedR8 r (rotEffective s.config.cbRow1AsRlc row)) :=
  (listed_rot row r).runs fun hn => by
    rw [rotReads, State.firstUnwritten_append, Option.or_eq_none_iff] at hn
    rw [exec_rot, rotR8_next_iff, State.rotatedR8, ← rotValue_eq_ofNat, flagged_eq_setFlags,
      ← rotFlags_eq]
    exact .inr ⟨hn.1, hr, .inr ⟨hn.2, rfl⟩⟩

/-- Rows 0x10-0x1F do what `CB_ROW1_AS_RLC` selects (45_rotate_shift_bit.md R314). -/
theorem State.rotatedR8_rotEffective_rl (r : R8) (b : Bool) :
    s.rotatedR8 r (rotEffective b .rl) = if b then s.rotatedR8 r .rlc else s.rotatedR8 r .rl :=
  apply_ite (s.rotatedR8 r) (b = true) .rlc .rl

theorem State.rotatedR8_rotEffective_rr (r : R8) (b : Bool) :
    s.rotatedR8 r (rotEffective b .rr) = if b then s.rotatedR8 r .rrc else s.rotatedR8 r .rr :=
  apply_ite (s.rotatedR8 r) (b = true) .rrc .rr

/-- Settles O31: each is one read and one write of the operand, with the operation its row performs. -/
theorem extendedRotatesAndShifts : Obligations.ExtendedRotatesAndShifts := fun _ r hr =>
  ⟨runs_rot .rlc hr, runs_rot .rrc hr, State.rotatedR8_rotEffective_rl r _ ▸ runs_rot .rl hr,
    State.rotatedR8_rotEffective_rr r _ ▸ runs_rot .rr hr, runs_rot .sla hr, runs_rot .sra hr,
    runs_rot .swap hr, runs_rot .srl hr⟩

/-! ## BIT, RES and SET (45_rotate_shift_bit.md R323 to R325) -/

theorem getLsbD_bitMask {b k : Nat} (hb : b < 8) : (1#8 <<< b).getLsbD k = decide (k = b) := by
  rw [← BitVec.twoPow, BitVec.getLsbD_twoPow, decide_eq_true hb, Bool.true_and,
    decide_eq_decide.2 eq_comm]

theorem getLsbD_and_not_bitMask {b k : Nat} (hb : b < 8) (hk : k < 8) (v : Byte) :
    (v &&& ~~~(1#8 <<< b)).getLsbD k = if k = b then false else v.getLsbD k := by
  rw [BitVec.getLsbD_and, BitVec.getLsbD_not, getLsbD_bitMask hb, decide_eq_true hk]
  by_cases hkb : k = b <;> simp [hkb]

theorem getLsbD_or_bitMask {b k : Nat} (hb : b < 8) (v : Byte) :
    (v ||| 1#8 <<< b).getLsbD k = if k = b then true else v.getLsbD k := by
  rw [BitVec.getLsbD_or, getLsbD_bitMask hb]
  by_cases hkb : k = b <;> simp [hkb]

section

variable {r : R8} (hr : s.r8Reaches r = true) (b : Fin 8)

include hr

theorem runs_bit : Spec.runs (Instr.bit b r) s
    ((s.afterR8 r).writeFlags (bitFlags (s.r8Byte r) b)) :=
  (listed_bit b r).runs fun hn => by
    rw [exec_bit, bitR8_next_iff]
    exact .inr ⟨hn, hr, rfl⟩

theorem runs_res : Spec.runs (Instr.res b r) s
    ((s.afterR8 r).putR8 r (s.r8Byte r &&& ~~~(1#8 <<< b.val))) :=
  (listed_res b r).runs fun hn => by
    rw [exec_res, resR8_next_iff]
    exact .inr ⟨hn, hr, rfl⟩

theorem runs_set : Spec.runs (Instr.set b r) s
    ((s.afterR8 r).putR8 r (s.r8Byte r ||| 1#8 <<< b.val)) :=
  (listed_set b r).runs fun hn => by
    rw [exec_set, setR8_next_iff]
    exact .inr ⟨hn, hr, rfl⟩

end

/-- Settles O32: BIT writes flags only; RES and SET write the operand under a mask of the one bit. -/
theorem bitResSetResults : Obligations.BitResSetResults := fun _ b _ hr =>
  ⟨runs_bit hr b, _, _, runs_res hr b, runs_set hr b,
    fun _ hk => ⟨getLsbD_and_not_bitMask b.isLt hk _, getLsbD_or_bitMask b.isLt _⟩⟩

end Sys2Proof.Machine

/-! # Control transfer: the family of 46_control_transfer.md

Jumps, calls and returns are one move of pc, after `Push16` or `Pop16` where there is one; a conditional
form is the unconditional one if its condition holds, and nothing otherwise. -/

namespace Sys2Proof.Machine

variable {s t : State} {cc : Cond}

/-! ## Conditions (30_encoding.md R127) -/

theorem Flags.cond_nz_iff {f : Flags} : f.cond .nz = true ↔ f.z = false := Bool.not_eq_true' f.z ▸ .rfl

theorem Flags.cond_nc_iff {f : Flags} : f.cond .nc = true ↔ f.c = false := Bool.not_eq_true' f.c ▸ .rfl

theorem Flags.ite_cond_nz (f : Flags) : (if f.cond .nz then t else s) = if f.z then s else t := by
  rw [Flags.cond]; cases f.z <;> rfl

theorem Flags.ite_cond_nc (f : Flags) : (if f.cond .nc then t else s) = if f.c then s else t := by
  rw [Flags.cond]; cases f.c <;> rfl

/-- A conditional form once its flag is read; what it does if taken matters only where it is taken. -/
theorem reading_cond_eq {o : Res State} (hn : s.firstUnwritten (condReads cc) = none) (len : Nat)
    (ho : s.flags.cond cc = true → o = .next t) :
    reading (condReads cc) len s (if s.flags.cond cc then o else .next s) =
      .next (if s.flags.cond cc then t else s) := by
  rw [reading_of_none hn]
  split
  · exact ho ‹_›
  · rfl

/-! ## Jumps (46_control_transfer.md R340 to R344) -/

theorem runs_jrCc (cc : Cond) (e : Byte) :
    Spec.runs (Instr.jrCc cc e) s (if s.flags.cond cc then s.setPc (s.pc + displacement e) else s) :=
  (listed_jrCc cc e).runs fun hn =>
    (exec_jrCc s cc e).trans (reading_cond_eq hn 2 fun _ => rfl)

theorem runs_jpCc (cc : Cond) (x : Word) :
    Spec.runs (Instr.jpCc cc x) s (if s.flags.cond cc then s.setPc x else s) :=
  (listed_jpCc cc x).runs fun hn =>
    (exec_jpCc s cc x).trans (reading_cond_eq hn 3 fun _ => rfl)

/-- Settles O33: each is one move of pc, once its flag or HL is read. -/
theorem jumps : Obligations.Jumps := by
  intro s e x
  simp only [offsetBy_eq_add_displacement, join_eq_wordOf]
  refine ⟨rfl, rfl, listed_jpHl.runs (reading_of_none · 1 _), ?_, runs_jrCc .z e, ?_, runs_jrCc .c e,
    ?_, runs_jpCc .z x, ?_, runs_jpCc .c x⟩
  · exact s.flags.ite_cond_nz ▸ runs_jrCc .nz e
  · exact s.flags.ite_cond_nc ▸ runs_jrCc .nc e
  · exact s.flags.ite_cond_nz ▸ runs_jpCc .nz x
  · exact s.flags.ite_cond_nc ▸ runs_jpCc .nc x

/-! ## The reads of a conditional call or return (60_exceptions.md R418) -/

theorem condStackReads_written_iff : s.firstUnwritten (condStackReads cc s) = none ↔
    s.firstUnwritten (condReads cc) = none ∧
      (s.flags.cond cc = true → s.firstUnwritten [.sp] = none) := by
  rw [condStackReads, State.firstUnwritten_append, Option.or_eq_none_iff]
  split <;> simp [*]

/-! ## Calls and restarts (46_control_transfer.md R345, R346, R350) -/

theorem callFrom_eq (hn : s.firstUnwritten [.sp] = none)
    (hstack : s.reaches (s.sp - 1) = true ∧ s.reaches (s.sp - 1 - 1) = true) (len : Nat) (x : Word) :
    callFrom len x s = .next ((s.pushed s.pc).setPc x) :=
  callFrom_next_iff.2 (.inr ⟨hn, hstack, rfl⟩)

theorem runs_callCc (hcall : unimplementedCall s.config (callOpcode cc) = false)
    (hstack : s.flags.cond cc = true →
      s.reaches (s.sp - 1) = true ∧ s.reaches (s.sp - 1 - 1) = true) (x : Word) :
    Spec.runs (Instr.callCc cc x) s (if s.flags.cond cc then (s.pushed s.pc).setPc x else s) := by
  have hcall := ne_true_of_eq_false hcall
  refine (listed_callCc cc x).runs fun hn => ?_
  rw [callReads, if_neg hcall] at hn
  obtain ⟨hflag, hsp⟩ := condStackReads_written_iff.1 hn
  rw [exec_callCc, callIf, if_neg hcall]
  exact reading_cond_eq hflag 3 fun hc => callFrom_eq (hsp hc) (hstack hc) 3 x

/-- Settles O34: `Push16` of pc, then the move of pc; a call not taken reads its flag only. -/
theorem callsAndRestarts : Obligations.CallsAndRestarts := by
  intro s x y
  simp only [push_eq_pushed, sub_two_eq]
  refine ⟨fun hstack => ⟨?_, ?_⟩, fun hcall hstack => ?_, fun hcall hstack => ?_,
    fun hcall hstack => ?_, fun hcall hstack => ?_⟩
  · exact (listed_callA16 x).runs fun hn => callFrom_eq hn hstack 3 x
  · rw [Nat.mul_comm]
    exact (listed_rst y).runs fun hn => (exec_rst s y).trans (callFrom_eq hn hstack 1 _)
  · exact s.flags.ite_cond_nz ▸
      runs_callCc (cc := .nz) hcall (fun hc => hstack (Flags.cond_nz_iff.1 hc)) x
  · exact runs_callCc (cc := .z) hcall hstack x
  · exact s.flags.ite_cond_nc ▸
      runs_callCc (cc := .nc) hcall (fun hc => hstack (Flags.cond_nc_iff.1 hc)) x
  · exact runs_callCc (cc := .c) hcall hstack x

/-! ## Returns (46_control_transfer.md R347 to R349) -/

theorem runs_retCc (hstack : s.flags.cond cc = true →
      s.reaches s.sp = true ∧ s.reaches (s.sp + 1) = true) :
    Spec.runs (Instr.retCc cc) s (if s.flags.cond cc then s.popped.setPc s.poppedWord else s) := by
  refine (listed_retCc cc).runs fun hn => ?_
  obtain ⟨hflag, hsp⟩ := condStackReads_written_iff.1 hn
  rw [exec_retCc, retIf]
  exact reading_cond_eq hflag 1 fun hc => ret_next_iff.2 (.inr ⟨hsp hc, hstack hc, rfl⟩)

/-- Settles O35: `Pop16`, then the move of pc, and for RETI that of IME; a return not taken reads its
flag only. -/
theorem returns : Obligations.Returns := by
  intro s
  simp only [afterPop_eq_popped, popped_eq_poppedWord]
  refine ⟨fun hstack => ⟨?_, ?_⟩, fun hstack => ?_, fun hstack => ?_, fun hstack => ?_,
    fun hstack => ?_⟩
  · exact listed_ret.runs fun hn => ret_next_iff.2 (.inr ⟨hn, hstack, rfl⟩)
  · exact listed_reti.runs fun hn => reti_next_iff.2 (.inr ⟨hn, hstack, rfl⟩)
  · exact s.flags.ite_cond_nz ▸ runs_retCc (cc := .nz) fun hc => hstack (Flags.cond_nz_iff.1 hc)
  · exact runs_retCc (cc := .z) hstack
  · exact s.flags.ite_cond_nc ▸ runs_retCc (cc := .nc) fun hc => hstack (Flags.cond_nc_iff.1 hc)
  · exact runs_retCc (cc := .c) hstack

end Sys2Proof.Machine

/-! # Faults: the family of 60_exceptions.md

An illegal opcode faults right after its fetch (`step_of_illegal`). `endsUnread` says, for every other
form of instruction, the state in which its first unwritten read ends it; an instruction that raises a
fault at all is ended so (`fault_of_exec`), and the fetch keeps the address of the opcode byte. -/

namespace Sys2Proof.Machine

variable {s t : State} {i : Instr} {n : RegName} {op : Byte}

/-! ## Illegal opcodes (40_step_and_system.md R209, 60_exceptions.md R402, R406, R407) -/

/-- An illegal opcode takes no operand byte (30_encoding.md R136). -/
theorem operandBytes_of_illegal (h : op ∈ Spec.illegal) : operandBytes op = 0 :=
  (encodes_illegal h).length_eq.symm

/-- The fetch of an illegal opcode, or of a call in `UNIMPL_CCALL`, is that of the one byte. -/
theorem fetchBytes_of_illegal (hreach : s.reaches s.pc = true)
    (h : s.loadByte s.pc ∈ Spec.illegal
      ∨ Spec.unimplemented s.config.unimplCcall (s.loadByte s.pc)) :
    fetchBytes s = .next ([s.loadByte s.pc], (s.afterLoad s.pc).pastOpcode) := by
  rw [fetchBytes_eq hreach]
  split
  · rfl
  · rename_i hcall
    rw [unimplementedCall_iff] at hcall
    rw [operandBytes_of_illegal (h.resolve_right hcall)]
    rfl

theorem selectInstr_of_illegal {config : Config}
    (h : op ∈ Spec.illegal ∨ Spec.unimplemented config.unimplCcall op) :
    selectInstr config [op] = .illegal op := by
  by_cases hcall : Spec.unimplemented config.unimplCcall op
  · exact if_pos (unimplementedCall_iff.2 hcall)
  · exact (if_neg (mt unimplementedCall_iff.1 hcall)).trans
      ((encodes_illegal (h.resolve_right hcall)).decode_eq [])

theorem State.pastOpcode_eq : s.pastOpcode = s.setPc (if s.halted then s.pc else s.pc + 1) := by
  rw [State.pastOpcode]
  split <;> rfl

/-- The opcode fetch is at the opcode's own address (40_step_and_system.md R201). -/
theorem State.opcodeAddress_pastOpcode : s.pastOpcode.opcodeAddress 1 = s.pc := by
  rw [State.opcodeAddress_one, State.pastOpcode]
  split
  · rfl
  · rename_i h
    exact (if_neg h).trans (BitVec.add_sub_cancel s.pc 1)

/-- The report of a running step is the fault that it raises. -/
theorem State.report_of_step {r : FaultRecord} (hfault : s.fault = none) (hparked : s.parked = false)
    (hstep : step s = .next t) (ht : t.fault = some r) : s.report = .faulted r := by
  simp only [State.report, hfault, hparked, hstep, ht, Bool.false_eq_true, if_false]

/-- A step at an illegal opcode, or at a call in `UNIMPL_CCALL`, latches the fault (log 8). -/
theorem step_of_illegal (hfault : s.fault = none) (hparked : s.parked = false)
    (hreach : s.reaches s.pc = true)
    (h : s.loadByte s.pc ∈ Spec.illegal
      ∨ Spec.unimplemented s.config.unimplCcall (s.loadByte s.pc)) :
    step s = .next { s.afterLoad s.pc with
      pc := if s.halted then s.pc else s.pc + 1
      fault := some (.illegalInstruction (s.loadByte s.pc) s.pc) } := by
  rw [step_of_fetchBytes hfault hparked (fetchBytes_of_illegal hreach h), selectInstr_of_illegal h]
  change Host.Outcome.next (State.raiseIllegal _ _ 1) = _
  rw [State.raiseIllegal_one, State.opcodeAddress_pastOpcode, State.afterLoad_pc, State.pastOpcode_eq,
    State.afterLoad_pc, State.afterLoad_halted]
  rfl

/-- Settles O9: the fetch of the one byte, and then the fault, which leaves pc. -/
theorem illegalOpcodeIsLatched : Obligations.IllegalOpcodeIsLatched := by
  rintro s op hfault hstopped hhalted hreach rfl h
  have hparked := State.parked_eq_false hstopped hhalted
  have hstep := step_of_illegal hfault hparked hreach h
  exact ⟨hstep, State.report_of_step hfault hparked hstep rfl⟩

/-! ## The instruction that an unwritten read ends (60_exceptions.md R407, R408, R418) -/

theorem State.opcodeAddress_congr (hpc : t.pc = s.pc) (hhalted : t.halted = s.halted) (len : Nat) :
    t.opcodeAddress len = s.opcodeAddress len := by
  rw [State.opcodeAddress, State.opcodeAddress, hpc, hhalted]

@[simp] theorem State.opcodeAddress_afterLoad (x : Word) (len : Nat) :
    (s.afterLoad x).opcodeAddress len = s.opcodeAddress len :=
  State.opcodeAddress_congr (s.afterLoad_pc x) (s.afterLoad_halted x) len

@[simp] theorem opcodeAddress_writtenFirst (len : Nat) :
    (Spec.writtenFirst i s).opcodeAddress len = s.opcodeAddress len := by
  rw [Spec.writtenFirst]
  split <;> rfl

/-- The byte at HL has been read when an unwritten read ends the instruction. -/
def MemoryRead (i : Instr) (s : State) : Prop :=
  Spec.readsMemoryFirst (Spec.opcode i) = true ∧ s.firstUnwritten (r8Reads .atHl) = none

/-- The read of `n` ends the instruction, after what its pseudocode does before that read. -/
structure EndsUnread (i : Instr) (s : State) (n : RegName) : Prop where
  afterMemory : MemoryRead i s → ∀ t, exec i s = .next t ↔
    s.reaches s.hl = true ∧ t = (s.afterLoad s.hl).raiseUnwritten n (encode i).length
  atOnce : ¬ MemoryRead i s →
    exec i s = .next ((Spec.writtenFirst i s).raiseUnwritten n (encode i).length)

/-- An unwritten read that ends an instruction latches its name and the instruction's address. -/
theorem EndsUnread.fault (h : EndsUnread i s n) (e : exec i s = .next t) :
    t.fault = some (.unwrittenRead n (s.opcodeAddress (encode i).length)) := by
  by_cases hm : MemoryRead i s
  · rw [((h.afterMemory hm t).1 e).2, State.raiseUnwritten, State.opcodeAddress_afterLoad]
    rfl
  · rw [h.atOnce hm, next_inj] at e
    rw [e, State.raiseUnwritten, opcodeAddress_writtenFirst]
    rfl

/-- An instruction of `len` bytes that reads no memory before a register or flag. -/
structure ReadsFirst (i : Instr) (len : Nat) : Prop where
  length : (encode i).length = len
  memory : Spec.readsMemoryFirst (Spec.opcode i) = false

theorem ReadsFirst.not_memoryRead {len : Nat} (F : ReadsFirst i len) : ¬ MemoryRead i s := by
  rintro ⟨h, -⟩
  rw [F.memory] at h
  cases h

namespace Listed

variable {names : State → List RegName} {regs : List Reg} {sp : Bool} {row : FlagRow} {len : Nat}

theorem firstUnwritten (T : Listed (Spec.opcode i) names regs sp row)
    (hn : s.firstUnwritten (Spec.reads i s) = some n) : s.firstUnwritten (names s) = some n :=
  (congrArg s.firstUnwritten (T.reads s)).symm.trans hn

theorem writtenFirst (T : Listed (Spec.opcode i) names regs sp row) : Spec.writtenFirst i s = s :=
  if_neg T.notCcf

/-- An instruction that makes no read is not ended by one. -/
theorem endsUnread_of_noReads (T : Listed (Spec.opcode i) names regs sp row) (hnames : names s = [])
    (hn : s.firstUnwritten (Spec.reads i s) = some n) : EndsUnread i s n := by
  have hn := T.firstUnwritten hn
  rw [hnames, State.firstUnwritten_nil] at hn
  cases hn

/-- An instruction that changes nothing before its reads. -/
theorem endsUnread (T : Listed (Spec.opcode i) names regs sp row) (F : ReadsFirst i len)
    (h : s.firstUnwritten (names s) = some n → exec i s = .next (s.raiseUnwritten n len))
    (hn : s.firstUnwritten (Spec.reads i s) = some n) : EndsUnread i s n where
  afterMemory hm := absurd hm F.not_memoryRead
  atOnce _ := by rw [T.writtenFirst, F.length, h (T.firstUnwritten hn)]

/-- An instruction that begins with all its reads. -/
theorem endsUnread_of_reading (T : Listed (Spec.opcode i) names regs sp row) (F : ReadsFirst i len)
    {k : Res State} (h : exec i s = reading (names s) len s k) :
    s.firstUnwritten (Spec.reads i s) = some n → EndsUnread i s n :=
  T.endsUnread F fun hn => h.trans (reading_of_some hn len k)

/-- An instruction that reads its operand and then more registers or flags. -/
theorem endsUnread_of_operand (T : Listed (Spec.opcode i) names regs sp row)
    (hlen : (encode i).length = len) {r : R8} {more : List RegName} {Q : State → Prop}
    (hnames : names s = r8Reads r ++ more)
    (hmem : Spec.readsMemoryFirst (Spec.opcode i) = true → r = .atHl)
    (hmore : more ≠ [] → r = .atHl → Spec.readsMemoryFirst (Spec.opcode i) = true)
    (law : ∀ {t}, exec i s = .next t ↔
      s.stopsUnread (r8Reads r) len t ∨ s.firstUnwritten (r8Reads r) = none ∧ s.r8Reaches r = true ∧
        ((s.afterR8 r).stopsUnread more len t ∨ s.firstUnwritten more = none ∧ Q t))
    (hn : s.firstUnwritten (Spec.reads i s) = some n) : EndsUnread i s n := by
  have hn := T.firstUnwritten hn
  rw [hnames, State.firstUnwritten_append] at hn
  subst hlen
  cases hr : s.firstUnwritten (r8Reads r) with
  | some m =>
    rw [hr, Option.some_or] at hn
    cases hn
    refine ⟨fun ⟨hm, hwritten⟩ => ?_, fun _ => T.writtenFirst ▸ law.2 (.inl ⟨n, hr, rfl⟩)⟩
    rw [hmem hm, hwritten] at hr
    cases hr
  | none =>
    rw [hr, Option.none_or] at hn
    have hne : more ≠ [] := by
      rintro rfl
      simp at hn
    cases r with
    | reg q =>
      exact ⟨fun hm => absurd (hmem hm.1) nofun,
        fun _ => T.writtenFirst ▸ law.2 (.inr ⟨hr, rfl, .inl ⟨n, hn, rfl⟩⟩)⟩
    | atHl =>
      refine ⟨fun _ t => law.trans ?_, fun hm => absurd ⟨hmore hne rfl, hr⟩ hm⟩
      simp [State.stopsUnread, hr, hn, State.r8Reaches, State.afterR8]

end Listed

/-! ### By form: how many bytes, and what is read before memory -/

theorem readsFirst_class01 (d z : R8) : ReadsFirst (Instr.class01 d z) 1 := by
  rcases d with q | _ <;> rcases z with r | _
  · cases q <;> cases r <;> exact ⟨rfl, rfl⟩
  · cases q <;> exact ⟨rfl, rfl⟩
  · cases r <;> exact ⟨rfl, rfl⟩
  · exact ⟨rfl, rfl⟩

theorem readsFirst_aluN8 (op : AluOp) (n : Byte) : ReadsFirst (Instr.aluN8 op n) 2 := by
  cases op <;> exact ⟨rfl, rfl⟩

theorem readsFirst_incR8 (r : R8) : ReadsFirst (Instr.incR8 r) 1 := by
  rcases r with r | _
  · cases r <;> exact ⟨rfl, rfl⟩
  · exact ⟨rfl, rfl⟩

theorem readsFirst_decR8 (r : R8) : ReadsFirst (Instr.decR8 r) 1 := by
  rcases r with r | _
  · cases r <;> exact ⟨rfl, rfl⟩
  · exact ⟨rfl, rfl⟩

theorem readsFirst_ldR8N8 (r : R8) (n : Byte) : ReadsFirst (Instr.ldR8N8 r n) 2 := by
  rcases r with r | _
  · cases r <;> exact ⟨rfl, rfl⟩
  · exact ⟨rfl, rfl⟩

theorem readsFirst_addHlPair (p : Pair) : ReadsFirst (Instr.addHlPair p) 1 := by
  cases p <;> exact ⟨rfl, rfl⟩

theorem readsFirst_incPair (p : Pair) : ReadsFirst (Instr.incPair p) 1 := by
  cases p <;> exact ⟨rfl, rfl⟩

theorem readsFirst_decPair (p : Pair) : ReadsFirst (Instr.decPair p) 1 := by
  cases p <;> exact ⟨rfl, rfl⟩

theorem readsFirst_pushPair (p : StackPair) : ReadsFirst (Instr.pushPair p) 1 := by
  cases p <;> exact ⟨rfl, rfl⟩

theorem readsFirst_popPair (p : StackPair) : ReadsFirst (Instr.popPair p) 1 := by
  cases p <;> exact ⟨rfl, rfl⟩

theorem readsFirst_storeInd (p : IndAddr) : ReadsFirst (Instr.storeInd p) 1 := by
  cases p <;> exact ⟨rfl, rfl⟩

theorem readsFirst_loadInd (p : IndAddr) : ReadsFirst (Instr.loadInd p) 1 := by
  cases p <;> exact ⟨rfl, rfl⟩

theorem readsFirst_accOp (o : AccOp) : ReadsFirst (Instr.accOp o) 1 := by
  cases o <;> exact ⟨rfl, rfl⟩

theorem readsFirst_jrCc (cc : Cond) (e : Byte) : ReadsFirst (Instr.jrCc cc e) 2 := by
  cases cc <;> exact ⟨rfl, rfl⟩

theorem readsFirst_jpCc (cc : Cond) (x : Word) : ReadsFirst (Instr.jpCc cc x) 3 := by
  cases cc <;> exact ⟨rfl, rfl⟩

theorem readsFirst_callCc (cc : Cond) (x : Word) : ReadsFirst (Instr.callCc cc x) 3 := by
  cases cc <;> exact ⟨rfl, rfl⟩

theorem readsFirst_retCc (cc : Cond) : ReadsFirst (Instr.retCc cc) 1 := by
  cases cc <;> exact ⟨rfl, rfl⟩

theorem readsFirst_rst (y : Fin 8) : ReadsFirst (Instr.rst y) 1 := by
  fin_cases y <;> exact ⟨rfl, rfl⟩

theorem readsFirst_bit (b : Fin 8) (r : R8) : ReadsFirst (Instr.bit b r) 2 := by
  rcases r with r | _
  · fin_cases b <;> cases r <;> exact ⟨rfl, rfl⟩
  · fin_cases b <;> exact ⟨rfl, rfl⟩

theorem readsFirst_res (b : Fin 8) (r : R8) : ReadsFirst (Instr.res b r) 2 := by
  rcases r with r | _
  · fin_cases b <;> cases r <;> exact ⟨rfl, rfl⟩
  · fin_cases b <;> exact ⟨rfl, rfl⟩

theorem readsFirst_set (b : Fin 8) (r : R8) : ReadsFirst (Instr.set b r) 2 := by
  rcases r with r | _
  · fin_cases b <;> cases r <;> exact ⟨rfl, rfl⟩
  · fin_cases b <;> exact ⟨rfl, rfl⟩

/-- Of the ALU operations those on the byte at HL read memory first (43_alu8.md R270). -/
theorem readsMemoryFirst_aluR8 (op : AluOp) (r : R8) :
    Spec.readsMemoryFirst (Spec.opcode (Instr.aluR8 op r)) = true ↔ r = .atHl := by
  rcases r with r | _
  · cases op <;> cases r <;> exact ⟨nofun, nofun⟩
  · cases op <;> exact ⟨fun _ => rfl, fun _ => rfl⟩

theorem length_encode_aluR8 (op : AluOp) (r : R8) : (encode (Instr.aluR8 op r)).length = 1 := by
  rcases r with r | _
  · cases op <;> cases r <;> rfl
  · cases op <;> rfl

/-- Of the extended rotates RL and RR of the byte at HL do (45_rotate_shift_bit.md R317, R318). -/
theorem readsMemoryFirst_rot (o : RotOp) (r : R8) :
    Spec.readsMemoryFirst (Spec.opcode (Instr.rot o r)) = true ↔ r = .atHl ∧ rotCarryReads o ≠ [] := by
  rcases r with r | _
  · cases o <;> cases r <;> exact ⟨nofun, nofun⟩
  · cases o <;> simp [rotCarryReads] <;> rfl

theorem length_encode_rot (o : RotOp) (r : R8) : (encode (Instr.rot o r)).length = 2 := by
  rcases r with r | _
  · cases o <;> cases r <;> rfl
  · cases o <;> rfl

/-- `CB_ROW1_AS_RLC` takes the read of the carry away and adds none (45_rotate_shift_bit.md R314). -/
theorem rotCarryReads_ne_nil_of_rotEffective {b : Bool} {o : RotOp}
    (h : rotCarryReads (rotEffective b o) ≠ []) : rotCarryReads o ≠ [] := by
  cases b
  · cases o <;> exact h
  · cases o <;> simp_all [rotEffective, rotCarryReads]

/-! ### The instructions -/

/-- A conditional call or return reads its flag and then, where it is taken, SP. -/
theorem reading_cond_of_some {cc : Cond} {len : Nat} {o : Res State}
    (hn : s.firstUnwritten (condStackReads cc s) = some n)
    (ho : s.firstUnwritten [.sp] = some n → o = .next (s.raiseUnwritten n len)) :
    reading (condReads cc) len s (if s.flags.cond cc then o else .next s)
      = .next (s.raiseUnwritten n len) := by
  rw [condStackReads, State.firstUnwritten_append] at hn
  cases hflag : s.firstUnwritten (condReads cc) with
  | some m =>
    rw [hflag, Option.some_or] at hn
    cases hn
    exact reading_of_some hflag len _
  | none =>
    rw [hflag, Option.none_or] at hn
    rw [reading_of_none hflag]
    split
    · rename_i hc
      rw [if_pos hc] at hn
      exact ho hn
    · rename_i hc
      rw [if_neg hc, State.firstUnwritten_nil] at hn
      cases hn

/-- CCF has cleared N and H when its read of C ends it (43_alu8.md R284). -/
theorem endsUnread_ccf (hn : s.firstUnwritten [.flag .c] = some n) : EndsUnread .ccf s n where
  afterMemory hm := absurd hm (readsFirst_accOp .ccf).not_memoryRead
  atOnce _ := by
    have hc : (s.writeFlags ⟨none, some false, some false, none⟩).firstUnwritten [.flag .c] = some n := by
      rw [← hn]
      simp [State.firstUnwritten, State.writeFlags, Written.get, FlagWrites.marks]
    exact ccf_next_iff.2 (.inl ⟨n, hc, rfl⟩)

theorem endsUnread_accOp {o : AccOp} (hn : s.firstUnwritten (Spec.reads (Instr.accOp o) s) = some n) :
    EndsUnread (Instr.accOp o) s n := by
  have F := readsFirst_accOp o
  cases o with
  | rlca => exact listed_rlca.endsUnread_of_reading F rfl hn
  | rrca => exact listed_rrca.endsUnread_of_reading F rfl hn
  | rla => exact listed_rla.endsUnread_of_reading F rfl hn
  | rra => exact listed_rra.endsUnread_of_reading F rfl hn
  | daa => exact listed_daa.endsUnread_of_reading F rfl hn
  | cpl => exact listed_cpl.endsUnread_of_reading F rfl hn
  | scf => exact listed_scf.endsUnread_of_noReads rfl hn
  | ccf => exact endsUnread_ccf hn

theorem endsUnread_callCc {cc : Cond} {x : Word}
    (hn : s.firstUnwritten (Spec.reads (Instr.callCc cc x) s) = some n) :
    EndsUnread (Instr.callCc cc x) s n := by
  have T := listed_callCc cc x
  by_cases hcall : unimplementedCall s.config (callOpcode cc) = true
  · exact T.endsUnread_of_noReads (if_pos hcall) hn
  · refine T.endsUnread (readsFirst_callCc cc x) (fun hn => ?_) hn
    rw [callReads, if_neg hcall] at hn
    rw [exec_callCc, callIf, if_neg hcall]
    exact reading_cond_of_some hn fun hsp => reading_of_some hsp 3 _

/-- The first unwritten read ends every well-formed instruction other than PREFIX CB. -/
theorem endsUnread (hwf : i.wf = true) (hi : i ≠ .prefixCb) :
    s.firstUnwritten (Spec.reads i s) = some n → EndsUnread i s n := by
  cases i using Instr.byForm with
  | h_class01 d z =>
    by_cases h : d = .atHl ∧ z = .atHl
    · obtain ⟨rfl, rfl⟩ := h
      exact listed_halt.endsUnread_of_noReads rfl
    · exact (listed_load h).endsUnread_of_reading (readsFirst_class01 d z)
        ((exec_class01 s d z).trans (if_neg h))
  | h_aluR8 op r =>
    have hmem := readsMemoryFirst_aluR8 op r
    exact (listed_aluR8 op r).endsUnread_of_operand (length_encode_aluR8 op r) rfl hmem.1
      (fun _ => hmem.2) (exec_aluR8 s op r ▸ aluR8_next_iff)
  | h_aluN8 op n =>
    exact (listed_aluN8 op n).endsUnread_of_reading (readsFirst_aluN8 op n) (exec_aluN8 s op n)
  | h_incR8 r => exact (listed_incR8 r).endsUnread_of_reading (readsFirst_incR8 r) (exec_incR8 s r)
  | h_decR8 r => exact (listed_decR8 r).endsUnread_of_reading (readsFirst_decR8 r) (exec_decR8 s r)
  | h_ldR8N8 r n =>
    exact (listed_ldR8N8 r n).endsUnread_of_reading (readsFirst_ldR8N8 r n) (exec_ldR8N8 s r n)
  | h_ldPairN16 p nn => exact (listed_ldPairN16 p nn).endsUnread_of_noReads rfl
  | h_addHlPair p =>
    exact (listed_addHlPair p).endsUnread_of_reading (readsFirst_addHlPair p) (exec_addHlPair s p)
  | h_incPair p =>
    exact (listed_incPair p).endsUnread_of_reading (readsFirst_incPair p) (exec_incPair s p)
  | h_decPair p =>
    exact (listed_decPair p).endsUnread_of_reading (readsFirst_decPair p) (exec_decPair s p)
  | h_pushPair p =>
    exact (listed_pushPair p).endsUnread_of_reading (readsFirst_pushPair p) (exec_pushPair s p)
  | h_popPair p =>
    exact (listed_popPair p).endsUnread_of_reading (readsFirst_popPair p) (exec_popPair s p)
  | h_storeInd p =>
    exact (listed_storeInd p).endsUnread_of_reading (readsFirst_storeInd p) (exec_storeInd s p)
  | h_loadInd p =>
    exact (listed_loadInd p).endsUnread_of_reading (readsFirst_loadInd p) (exec_loadInd s p)
  | h_accOp o => exact endsUnread_accOp
  | h_jrCc cc e =>
    exact (listed_jrCc cc e).endsUnread_of_reading (readsFirst_jrCc cc e) (exec_jrCc s cc e)
  | h_jpCc cc x =>
    exact (listed_jpCc cc x).endsUnread_of_reading (readsFirst_jpCc cc x) (exec_jpCc s cc x)
  | h_callCc cc x => exact endsUnread_callCc
  | h_retCc cc =>
    exact (listed_retCc cc).endsUnread (readsFirst_retCc cc) fun hn =>
      (exec_retCc s cc).trans (reading_cond_of_some hn fun hsp => reading_of_some hsp 1 _)
  | h_rst y => exact (listed_rst y).endsUnread_of_reading (readsFirst_rst y) (exec_rst s y)
  | h_rot o r =>
    have hmem := readsMemoryFirst_rot o r
    exact (listed_rot o r).endsUnread_of_operand (length_encode_rot o r) rfl (fun h => (hmem.1 h).1)
      (fun hmore hr => hmem.2 ⟨hr, rotCarryReads_ne_nil_of_rotEffective hmore⟩)
      (exec_rot s o r ▸ rotR8_next_iff)
  | h_bit b r => exact (listed_bit b r).endsUnread_of_reading (readsFirst_bit b r) (exec_bit s b r)
  | h_res b r => exact (listed_res b r).endsUnread_of_reading (readsFirst_res b r) (exec_res s b r)
  | h_set b r => exact (listed_set b r).endsUnread_of_reading (readsFirst_set b r) (exec_set s b r)
  | h_nop => exact listed_nop.endsUnread_of_noReads rfl
  | h_stop => exact listed_stop.endsUnread_of_noReads rfl
  | h_di => exact listed_di.endsUnread_of_noReads rfl
  | h_ei => exact listed_ei.endsUnread_of_noReads rfl
  | h_illegal op => exact (listed_illegal hwf).endsUnread_of_noReads rfl
  | h_prefixCb => exact absurd rfl hi
  | h_ldAtA16Sp x => exact (listed_ldAtA16Sp x).endsUnread_of_reading ⟨rfl, rfl⟩ rfl
  | h_jrE8 e => exact (listed_jrE8 e).endsUnread_of_noReads rfl
  | h_ldhAtA8A n => exact (listed_ldhAtA8A n).endsUnread_of_reading ⟨rfl, rfl⟩ rfl
  | h_ldhAAtA8 n => exact (listed_ldhAAtA8 n).endsUnread_of_noReads rfl
  | h_ldAtCA => exact listed_ldAtCA.endsUnread_of_reading ⟨rfl, rfl⟩ rfl
  | h_ldAAtC => exact listed_ldAAtC.endsUnread_of_reading ⟨rfl, rfl⟩ rfl
  | h_ldAtA16A x => exact (listed_ldAtA16A x).endsUnread_of_reading ⟨rfl, rfl⟩ rfl
  | h_ldAAtA16 x => exact (listed_ldAAtA16 x).endsUnread_of_noReads rfl
  | h_addSpE8 e => exact (listed_addSpE8 e).endsUnread_of_reading ⟨rfl, rfl⟩ rfl
  | h_ldHlSpE8 e => exact (listed_ldHlSpE8 e).endsUnread_of_reading ⟨rfl, rfl⟩ rfl
  | h_ldSpHl => exact listed_ldSpHl.endsUnread_of_reading ⟨rfl, rfl⟩ rfl
  | h_ret => exact listed_ret.endsUnread_of_reading ⟨rfl, rfl⟩ rfl
  | h_reti => exact listed_reti.endsUnread_of_reading ⟨rfl, rfl⟩ rfl
  | h_jpHl => exact listed_jpHl.endsUnread_of_reading ⟨rfl, rfl⟩ rfl
  | h_jpA16 x => exact (listed_jpA16 x).endsUnread_of_noReads rfl
  | h_callA16 x => exact (listed_callA16 x).endsUnread_of_reading ⟨rfl, rfl⟩ rfl

/-! ### What has been read before the first unwritten one -/

/-- What reads memory first has read H and L for its address (00_scope.md R12). -/
theorem readsOf_of_readsMemoryFirst {k : Nat} (h : Spec.readsMemoryFirst k = true) :
    ∃ more, Spec.readsOf k s = r8Reads .atHl ++ more := by
  simp only [Spec.readsMemoryFirst, decide_eq_true_eq] at h
  rcases h with ⟨hle, hlt, hz⟩ | rfl | rfl
  · have hbase : ¬ 0x100 ≤ k := by omega
    have hclass0 : ¬ k < 0x40 := by omega
    have hclass1 : ¬ k < 0x80 := by omega
    simp only [Spec.readsOf, if_neg hbase, if_neg hclass0, if_neg hclass1, if_pos hlt, hz]
    exact ⟨_, rfl⟩
  · exact ⟨_, rfl⟩
  · exact ⟨_, rfl⟩

/-- The first reads are made exactly when the first unwritten one comes after them. -/
theorem length_le_iff_firstUnwritten {names more before after : List RegName}
    (hnames : names ++ more = before ++ n :: after) (hno : s.config.resetRegs = .noValue)
    (hbefore : ∀ m ∈ before, s.written.get m = true) (hn : s.written.get n = false) :
    names.length ≤ before.length ↔ s.firstUnwritten names = none := by
  rw [State.firstUnwritten_eq_none_iff]
  rcases List.append_eq_append_iff.1 hnames with ⟨others, rfl, -⟩ | ⟨others, rfl, hothers⟩
  · refine ⟨fun _ => .inr fun m hm => hbefore m (List.mem_append_left _ hm), fun _ => ?_⟩
    rw [List.length_append]
    exact Nat.le_add_right _ _
  · cases others with
    | nil => simpa using .inr hbefore
    | cons m others =>
      obtain ⟨rfl, -⟩ := List.cons.inj hothers
      simpa [hno] using ⟨n, by simp, hn⟩

/-- Settles O36: the reads before `n` are written, so `n` is the first unwritten one; the byte at HL is
read once H and L are. -/
theorem unwrittenReadIsLatched : Obligations.UnwrittenReadIsLatched := by
  intro i s before after n hwf hi hno hreads hbefore hn
  simp only [isWritten_eq_get] at hbefore hn
  have h := endsUnread hwf hi
    (State.firstUnwritten_eq_some_iff.2 ⟨hno, hn, before, after, hreads, hbefore⟩)
  have hmem : Spec.readsMemoryFirst (Spec.opcode i) = true ∧ before.length ≥ 2 ↔ MemoryRead i s := by
    refine and_congr_right fun hk => ?_
    obtain ⟨more, hmore⟩ := readsOf_of_readsMemoryFirst (s := s) hk
    exact length_le_iff_firstUnwritten (hmore.symm.trans hreads) hno hbefore hn
  have haddress : s.opcodeAddress (encode i).length =
      s.pc - BitVec.ofNat 16 (if s.halted then (encode i).length - 1 else (encode i).length) := by
    rw [State.opcodeAddress]
    split <;> rfl
  simp only [hmem, join_eq_wordOf, ← haddress]
  refine fun hreach => ⟨rfl, fun hm => ?_, fun hm => ?_⟩
  · refine (h.afterMemory hm _).2 ⟨hreach hm, ?_⟩
    rw [State.raiseUnwritten, State.opcodeAddress_afterLoad]
    rfl
  · rw [h.atOnce hm, State.raiseUnwritten, opcodeAddress_writtenFirst]
    rfl

/-! ## Only two faults (60_exceptions.md R402, R408, R418) -/

/-- A conditional call that has read what is written, and is not in `UNIMPL_CCALL`, raises nothing. -/
theorem fault_of_callIf {cc : Cond} {x : Word} (hcall : unimplementedCall s.config (callOpcode cc) = false)
    (hn : s.firstUnwritten (condStackReads cc s) = none) (e : callIf cc x s = .next t) :
    t.fault = s.fault := by
  obtain ⟨hflag, hsp⟩ := condStackReads_written_iff.1 hn
  rw [callIf, hcall, if_neg Bool.false_ne_true, reading_of_none hflag] at e
  rcases ite_next_cases e with ⟨hc, e⟩ | ⟨-, rfl⟩
  · rcases callFrom_next_iff.1 e with ⟨m, hm, -⟩ | ⟨-, e⟩
    · rw [hsp hc] at hm
      cases hm
    · exact (callFrom_change (may := (· = .sp)) rfl e).same .fault nofun
  · rfl

/-- An instruction that is neither illegal nor a call in `UNIMPL_CCALL` raises a fault only at an
unwritten read. -/
theorem fault_of_exec {r : FaultRecord} (hwf : i.wf = true) (hi : i ≠ .prefixCb)
    (hillegal : ∀ op, i ≠ .illegal op)
    (hcall : ∀ cc x, i = Instr.callCc cc x → unimplementedCall s.config (callOpcode cc) = false)
    (hfault : s.fault = none) (e : exec i s = .next t) (hr : t.fault = some r) :
    ∃ n, s.firstUnwritten (Spec.reads i s) = some n
      ∧ r = .unwrittenRead n (s.opcodeAddress (encode i).length) := by
  cases hn : s.firstUnwritten (Spec.reads i s) with
  | some n =>
    rw [(endsUnread hwf hi hn).fault e] at hr
    exact ⟨n, rfl, (Option.some.inj hr).symm⟩
  | none =>
    have hsame : t.fault = s.fault := by
      by_cases hc : ∃ cc x, i = Instr.callCc cc x
      · obtain ⟨cc, x, rfl⟩ := hc
        have hcall := hcall cc x rfl
        rw [Spec.reads, (listed_callCc cc x).reads, callReads, hcall, if_neg Bool.false_ne_true] at hn
        exact fault_of_callIf hcall hn (exec_callCc s cc x ▸ e)
      · rcases exec_answers hi e with ⟨u, m, len, h⟩ | ⟨-, w, h, -⟩
        · rw [h.unwritten] at hn
          cases hn
        · exact h.same .fault (not_or.2 ⟨not_exists.2 hillegal, hc⟩)
    rw [hsame, hfault] at hr
    cases hr

/-! ### The fetch keeps the opcode's own address (40_step_and_system.md R201, R203) -/

/-- From `s` to `t`, `k` operand bytes have been fetched. -/
structure Fetched (k : Nat) (s t : State) : Prop where
  config : t.config = s.config
  written : t.written = s.written
  fault : t.fault = s.fault
  halted : t.halted = s.halted
  pc : t.pc = s.pc + BitVec.ofNat 16 k

theorem fetched_of_fetchOperand {k : Nat} {vs : List Byte} (h : fetchOperand k s = .next (vs, t)) :
    Fetched k s t := by
  induction k generalizing s vs with
  | zero => cases h; exact ⟨rfl, rfl, rfl, rfl, (BitVec.add_zero _).symm⟩
  | succ k ih =>
    simp only [fetchOperand, fetchImm8, andThen_eq_next, memRead_next_iff, next_inj] at h
    obtain ⟨_, ⟨_, ⟨-, rfl⟩, rfl⟩, ⟨ws, u⟩, hrest, h⟩ := h
    cases h
    obtain ⟨hconfig, hwritten, hfault, hhalted, hpc⟩ := ih hrest
    refine ⟨by simpa using hconfig, by simpa using hwritten, by simpa using hfault,
      by simpa using hhalted, hpc.trans ?_⟩
    rw [State.setPc_pc, State.afterLoad_pc, Nat.add_comm k 1, BitVec.ofNat_add, BitVec.add_assoc]
    rfl

/-- The address of the opcode byte is the same once the operand bytes are fetched. -/
theorem Fetched.opcodeAddress {k : Nat} (h : Fetched k s t) :
    t.opcodeAddress (k + 1) = s.opcodeAddress 1 := by
  rw [State.opcodeAddress_one, State.opcodeAddress, h.halted, h.pc, Nat.add_sub_cancel]
  split
  · exact BitVec.add_sub_cancel s.pc _
  · rw [BitVec.ofNat_add]
    bv_omega

@[simp] theorem State.pastOpcode_written : s.pastOpcode.written = s.written := by
  rw [State.pastOpcode_eq, State.setPc_written]

@[simp] theorem State.pastOpcode_fault : s.pastOpcode.fault = s.fault := by
  rw [State.pastOpcode_eq, State.setPc_fault]

theorem Encodes.ne_prefixCb {operand : List Byte} (e : Encodes op operand i) : i ≠ .prefixCb := by
  rintro rfl
  obtain ⟨rfl, rfl⟩ := List.cons.inj e.encode_eq
  cases e.length_eq

theorem Encodes.mem_illegal {operand : List Byte} {x : Byte} (e : Encodes op operand (.illegal x)) :
    op ∈ Spec.illegal := by
  obtain ⟨rfl, -⟩ := List.cons.inj e.encode_eq
  exact List.contains_iff_mem.1 e.wf

theorem Encodes.eq_callOpcode {operand : List Byte} {cc : Cond} {x : Word}
    (e : Encodes op operand (Instr.callCc cc x)) : op = callOpcode cc := by
  cases cc <;> exact (List.cons.inj e.encode_eq).1.symm

/-- A fetch that completes has read the byte at pc. -/
theorem reaches_of_fetchBytes {bytes : List Byte} (h : fetchBytes s = .next (bytes, t)) :
    s.reaches s.pc = true := by
  simp only [fetchBytes, fetchOpcode, andThen_eq_next, memRead_next_iff] at h
  obtain ⟨_, ⟨_, ⟨hreach, -⟩, -⟩, -⟩ := h
  exact hreach

/-- The fetch at a legal opcode, and the instruction it selects. -/
theorem exists_encodes_of_fetchBytes {bytes : List Byte} (h : fetchBytes s = .next (bytes, t))
    (hcall : unimplementedCall s.config (s.loadByte s.pc) = false) :
    ∃ operand, Encodes (s.loadByte s.pc) operand (selectInstr s.config bytes)
      ∧ Fetched operand.length (s.afterLoad s.pc).pastOpcode t := by
  rw [fetchBytes_eq (reaches_of_fetchBytes h), hcall, if_neg Bool.false_ne_true, andThen_eq_next] at h
  obtain ⟨⟨vs, u⟩, hoperand, h⟩ := h
  cases h
  obtain ⟨operand, rest, i, e, rfl⟩ := exists_encodes_append (length_of_fetchOperand hoperand).ge
  have hselect : selectInstr s.config (s.loadByte s.pc :: (operand ++ rest)) = i :=
    (if_neg (ne_true_of_eq_false hcall)).trans (e.decode_eq rest)
  exact ⟨operand, hselect ▸ e, e.length_eq ▸ fetched_of_fetchOperand hoperand⟩

/-- A step that latches a fault ran the instruction whose bytes it fetched. -/
theorem running_of_step {r : FaultRecord} (e : step s = .next t) (hr : t.fault = some r) :
    s.fault = none ∧ s.parked = false ∧ ∃ bytes u, fetchBytes s = .next (bytes, u) := by
  cases hfault : s.fault with
  | some q => rw [step_of_fault hfault] at e; cases e
  | none =>
    cases hparked : s.parked with
    | true =>
      rw [step_of_parked hfault hparked, next_inj] at e
      rw [e, hfault] at hr
      cases hr
    | false =>
      simp only [step, hfault, hparked, fetchInstr, andThen_eq_next, Bool.false_eq_true, if_false] at e
      obtain ⟨_, ⟨⟨bytes, u⟩, hfetch, -⟩, -⟩ := e
      exact ⟨rfl, rfl, bytes, u, hfetch⟩

/-- Settles O52: an illegal opcode and a call in `UNIMPL_CCALL` raise their fault, and every other
instruction raises one only at an unwritten read. -/
theorem stepLatchesOnlyTwoFaults : Obligations.StepLatchesOnlyTwoFaults := by
  intro s t r e hr
  obtain ⟨hfault, hparked, bytes, u, hfetch⟩ := running_of_step e hr
  by_cases hop : s.loadByte s.pc ∈ Spec.illegal
      ∨ Spec.unimplemented s.config.unimplCcall (s.loadByte s.pc)
  · rw [step_of_illegal hfault hparked (reaches_of_fetchBytes hfetch) hop, next_inj] at e
    rw [e] at hr
    exact .inl ⟨(Option.some.inj hr).symm, hop⟩
  · obtain ⟨hillegal, hcall⟩ := not_or.1 hop
    rw [← unimplementedCall_eq_false_iff] at hcall
    obtain ⟨operand, he, hu⟩ := exists_encodes_of_fetchBytes hfetch hcall
    rw [step_of_fetchBytes hfault hparked hfetch] at e
    have hconfig : u.config = s.config := by rw [hu.config]; simp
    have hwritten : u.written = s.written := by rw [hu.written]; simp
    obtain ⟨n, hn, rfl⟩ := fault_of_exec he.wf he.ne_prefixCb
      (fun x hx => hillegal (hx ▸ he).mem_illegal)
      (fun cc x hx => hconfig ▸ (hx ▸ he).eq_callOpcode ▸ hcall)
      (by rw [hu.fault]; simpa using hfault) e hr
    obtain ⟨hno, hn, -⟩ := State.firstUnwritten_eq_some_iff.1 hn
    refine .inr ⟨hconfig ▸ hno, n, ?_, by rw [isWritten_eq_get, ← hwritten, hn]⟩
    rw [he.encode_eq, List.length_cons, hu.opcodeAddress, State.opcodeAddress_pastOpcode,
      State.afterLoad_pc]

end Sys2Proof.Machine
